-- ==== Sys2Proof/Word.lean ====
section
/-! DEFINITION. The widths and the fixed sets of numbers of the FTC-512 (00_scope.md, Conventions), and two
plain helpers over bytes and vectors. -/

namespace Sys2Proof

abbrev Byte := BitVec 8

/-- A record key field: 0000h to FFFFh, of which 0001h to FFFEh are record keys (R5). -/
abbrev Key := BitVec 16

/-- A tag, 0 to 15 (R161). -/
abbrev Tag := BitVec 4

/-- A generation, modulo 65536 (R4). -/
abbrev Gen := BitVec 16

/-- A lease or wait length in ticks, 0 to 65,535 (R45). -/
abbrev Ticks := BitVec 16

/-- A 32-bit field: a signed value or bound, a mask, device time, a wear count (00_scope.md). -/
abbrev Word := BitVec 32

/-- A deadline's serial (R64). -/
abbrev Serial := BitVec 32

abbrev PortId := Fin 4
abbrev GroupId := Fin 16
abbrev Slot := Fin 512

/-- A home, written g.h (R97). -/
structure HomeId where
  group : GroupId
  home : Fin 16
  deriving DecidableEq, Repr

/-- The bytes of a 16-bit field, high byte first (R188). -/
def bytes16 (x : BitVec 16) : List Byte := [(x >>> 8).setWidth 8, x.setWidth 8]

/-- The bytes of a 32-bit field, high byte first (R188). -/
def bytes32 (x : BitVec 32) : List Byte :=
  [(x >>> 24).setWidth 8, (x >>> 16).setWidth 8, (x >>> 8).setWidth 8, x.setWidth 8]

/-- Applies `f` at every place of a vector. -/
def vmap {α β : Type} {n : Nat} (f : α → β) (v : Vector α n) : Vector β n :=
  ⟨⟨v.toList.map f⟩, by simp⟩

end Sys2Proof
end

