-- ==== Sys2Proof/Config.lean ====
section
/-! DEFINITION. The fixed figures of the FTC-512, and the free values: what the manual leaves open although the
part goes on. A free value has no body, so no proof can see it. -/

namespace Sys2Proof.Config

/-- Places in a request queue, R157. -/
def requestDepth : Nat := 4

/-- Reply entries of a port, R146. -/
def replyEntries : Nat := 4

/-- Places in a notice queue, the held notice counted, R86. -/
def noticeDepth : Nat := 8

/-- Watches of a port, R79. -/
def watchBudget : Nat := 64

/-- Parked requests of a port, R43. -/
def parkLimit : Nat := 2

/-- The greatest hold count, R41. -/
def holdLimit : Nat := 15

/-- The wear count at which a group is WORN, R108. -/
def wornAt : Nat := 200000

/-- Suspensions of one rewrite, R136. -/
def suspendLimit : Nat := 4

/-- Active erasing time in ticks past which an erase has failed, R122. -/
def eraseLimit : Nat := 400

/-- Ticks past which PROGRAMMING or COMMITTING has failed, R123 and R124. -/
def programLimit : Nat := 20

/-- Bytes of a bank image, R193. -/
def bankBytes : Nat := 301

/-- The fill byte, R189. -/
def fillByte : Byte := 0x00

/-- FREE VALUE (log 13): byte `offset` of what an erase or a program that did not end well left in a bank, at the
`draw`-th such event. R105, R107 and R128 say only which conditions the bank may then be in. -/
opaque freeByte : (draw offset : Nat) → Byte

/-- FREE VALUE (log 14): the home carried by the reply to a parked SYNC whose record has gone from its group by the
time the reply is filled (R133, R135), at the `draw`-th such reply. -/
opaque freeHome : (draw : Nat) → Option HomeId

end Sys2Proof.Config
end

