-- ==== Sys2Proof/Syntax.lean ====
section
/-! DEFINITION. The commands: one constructor for each row of spec/opcode_table.json, in the table's order. A row's
docstring names the rule the table gives it. -/

namespace Sys2Proof

/-- The level of a port's privilege strap: PSV high is SUPERVISOR, low is OPERATOR (R172, 11.6). -/
inductive Privilege where
  | operator
  | supervisor
  deriving DecidableEq, Repr

/-- The operations and events of the part, each whole and indivisible (95_what_each_step_holds.md). A request row's
port is the port whose head request the Table Engine takes; the request's operands are in that port's request queue. -/
inductive Instr where
  /-- DEVICE_RESET, R1: power-on, or RST# is asserted. -/
  | deviceReset
  /-- RESTORE, R109: the reset ends, the PSV straps of P0 to P3 are sampled and the banks are loaded. -/
  | restore (psv0 psv1 psv2 psv3 : Privilege)
  /-- RESTORE_END, R113. -/
  | restoreEnd
  /-- PRST_ASSERTED, R173. -/
  | prstAsserted (p : PortId)
  /-- PRST_DEASSERTED, R175. -/
  | prstDeasserted (p : PortId)
  /-- PFW_ASSERTED, R138. -/
  | pfwAsserted
  /-- PFW_DEASSERTED, R139. -/
  | pfwDeasserted
  /-- TICK, R63. -/
  | tick
  /-- FALLING_DUE, R67. -/
  | fallingDue
  /-- TRANSACTION_BEGIN, R158: the host asserts the port's select. -/
  | transactionBegin (p : PortId)
  /-- SUBMIT, R162: select is released after code A1h and the whole bytes `bytes`. -/
  | submit (p : PortId) (bytes : List Byte)
  /-- FETCH, R167: the code byte A2h is whole. -/
  | fetch (p : PortId)
  /-- FETCH_RELEASE, R167: select is released after `clocked` whole bytes beyond the code byte. -/
  | fetchRelease (p : PortId) (clocked : Nat)
  /-- FETCH_NOTICE, R89: the code byte A3h is whole. -/
  | fetchNotice (p : PortId)
  /-- FETCH_NOTICE_RELEASE, R90 and R91: select is released after `clocked` whole bytes beyond the code byte. -/
  | fetchNoticeRelease (p : PortId) (clocked : Nat)
  /-- PEEK, R169: a transaction of code A4h. -/
  | peek (p : PortId)
  /-- UNKNOWN_TRANSACTION, R160: select is released after a code byte that is none of the four. -/
  | unknownTransaction (p : PortId) (code : Byte)
  /-- CREATE, R10. -/
  | create (p : PortId)
  /-- FIND, R14. -/
  | find (p : PortId)
  /-- NEXT, R15. -/
  | next (p : PortId)
  /-- RETIRE, R16. -/
  | retire (p : PortId)
  /-- SET_GUARD, R21. -/
  | setGuard (p : PortId)
  /-- SET, R32. -/
  | set (p : PortId)
  /-- SET_IF, R33. -/
  | setIf (p : PortId)
  /-- ADD, R34. -/
  | add (p : PortId)
  /-- TAKE, R35. -/
  | take (p : PortId)
  /-- GIVE, R36. -/
  | give (p : PortId)
  /-- BITSET, R37. -/
  | bitset (p : PortId)
  /-- BITCLR, R38. -/
  | bitclr (p : PortId)
  /-- CLAIM, R45. -/
  | claim (p : PortId)
  /-- RELEASE, R53. -/
  | release (p : PortId)
  /-- RENEW, R70. -/
  | renew (p : PortId)
  /-- CANCEL_WAIT, R58. -/
  | cancelWait (p : PortId)
  /-- WATCH, R80. -/
  | watch (p : PortId)
  /-- UNWATCH, R81. -/
  | unwatch (p : PortId)
  /-- GATE, R93. -/
  | gate (p : PortId)
  /-- SYNC, R133. -/
  | sync (p : PortId)
  /-- EVICT, R177: `p` is the requesting port. -/
  | evict (p : PortId)
  /-- CLEAR_FAULT, R183. -/
  | clearFault (p : PortId)
  /-- CENSUS, R184. -/
  | census (p : PortId)
  /-- GROUP_STATUS, R185. -/
  | groupStatus (p : PortId)
  /-- BAD_REQUEST, R151. -/
  | badRequest (p : PortId)
  /-- LEASE_EXPIRY, R72: the Table Engine takes the LEASE expiry event at the head of its list. -/
  | leaseExpiry
  /-- WAIT_EXPIRY, R73. -/
  | waitExpiry
  /-- EVICTION_EVENT, R178. -/
  | evictionEvent
  /-- REWRITE_START, R120. -/
  | rewriteStart
  /-- CAPTURE_EVENT, R121. -/
  | captureEvent
  /-- ERASE_DONE, R122: the array reports the erase done; `ok` says whether the bank reads erased. -/
  | eraseDone (ok : Bool)
  /-- ERASE_TIMEOUT, R122. -/
  | eraseTimeout
  /-- ERASE_PAUSED, R136. -/
  | erasePaused
  /-- PROGRAMMING_DONE, R123: `ok` says whether every part verified. -/
  | programmingDone (ok : Bool)
  /-- PROGRAM_TIMEOUT, R123. -/
  | programTimeout
  /-- COMMIT_MARK_DONE, R124: `ok` says whether the commit mark verified. -/
  | commitMarkDone (ok : Bool)
  /-- COMMIT_MARK_TIMEOUT, R124. -/
  | commitMarkTimeout
  /-- COMMIT_EVENT, R126: the Table Engine takes a COMMITTED commit event. -/
  | commitEvent
  /-- COMMIT_EVENT_FAULTED, R129: the Table Engine takes a FAULTED commit event. -/
  | commitEventFaulted
  /-- LOSS_OF_POWER, R140. -/
  | lossOfPower
  deriving DecidableEq, Repr

end Sys2Proof
end

