-- ==== Sys2Proof/Decode.lean ====
section
/-! DEFINITION. What the code byte of a transaction decides (R160, R189), and the command that a word spells.
spec/opcode_table.json gives no row any bits (every row's "fields" is empty), so no word spells a command. A request
frame's code is read when the Table Engine takes it (Machine/Operands.lean). -/

namespace Sys2Proof

/-- What a transaction is, R160. -/
inductive TransactionKind where
  | submit
  | fetch
  | fetchNotice
  | peek
  | unknown
  deriving DecidableEq, Repr

/-- R189: the transaction that a code byte names; any other code is an unknown transaction (R160). -/
def transactionKind (code : Byte) : TransactionKind :=
  if code = 0xA1 then .submit
  else if code = 0xA2 then .fetch
  else if code = 0xA3 then .fetchNotice
  else if code = 0xA4 then .peek
  else .unknown

/-- R158, R160: the commands that a whole transaction at a port comes to, `sent` being the whole bytes that the host
clocks between the assertion of select and its release. A transaction released before its code byte is whole has none
but its beginning; what the host clocks behind the code byte of FETCH, FETCH-NOTICE and PEEK is counted or ignored. -/
def transactionCommands (p : PortId) (sent : List Byte) : List Instr :=
  match sent with
  | [] => [.transactionBegin p]
  | code :: rest =>
    match transactionKind code with
    | .submit => [.transactionBegin p, .submit p rest]
    | .fetch => [.transactionBegin p, .fetch p, .fetchRelease p rest.length]
    | .fetchNotice => [.transactionBegin p, .fetchNotice p, .fetchNoticeRelease p rest.length]
    | .peek => [.transactionBegin p, .peek p]
    | .unknown => [.transactionBegin p, .unknownTransaction p code]

/-- No row of the table has bits, so there is none to read. -/
def decodeTableWord (_nbits _w : Nat) : Option Instr := none

end Sys2Proof
end

