-- ==== Sys2Proof/WellFormed.lean ====
section
/-! DEFINITION. Which commands name an event that can be: the one operand a row bounds is the code of an unknown
transaction. -/

namespace Sys2Proof

/-- R160: an unknown transaction's code is none of the four. Every other command is well formed. -/
def WellFormed (i : Instr) : Bool :=
  match i with
  | .unknownTransaction _ code => decide (transactionKind code = .unknown)
  | .deviceReset | .restore .. | .restoreEnd | .prstAsserted _ | .prstDeasserted _ | .pfwAsserted
  | .pfwDeasserted | .tick | .fallingDue | .transactionBegin _ | .submit .. | .fetch _ | .fetchRelease ..
  | .fetchNotice _ | .fetchNoticeRelease .. | .peek _ | .create _ | .find _ | .next _ | .retire _ | .setGuard _
  | .set _ | .setIf _ | .add _ | .take _ | .give _ | .bitset _ | .bitclr _ | .claim _ | .release _ | .renew _
  | .cancelWait _ | .watch _ | .unwatch _ | .gate _ | .sync _ | .evict _ | .clearFault _ | .census _
  | .groupStatus _ | .badRequest _ | .leaseExpiry | .waitExpiry | .evictionEvent | .rewriteStart | .captureEvent
  | .eraseDone _ | .eraseTimeout | .erasePaused | .programmingDone _ | .programTimeout | .commitMarkDone _
  | .commitMarkTimeout | .commitEvent | .commitEventFaulted | .lossOfPower => true

end Sys2Proof
end

