-- ==== Sys2Proof/Machine/State.lean ====
section
/-! DEFINITION. Everything the manual gives the FTC-512 to remember, as plain data, and its value while a device reset
is held. INVENTORY.md, under State, lists each field with its rule and its reset value. -/

namespace Sys2Proof.Machine

/-- The block has no fault: it answers every error by a status, a last-submit result or a device notice, which are
state (INVENTORY.md, Faults). No command raises one. -/
inductive Fault where
  deriving DecidableEq, Repr

/-- Why a command has no meaning. -/
inductive Refusal where
  /-- Raised by `exec` for a row whose meaning is not written. Safe: the model stops. No row is refused at present. -/
  | notModelled (mnemonic : String)
  deriving DecidableEq, Repr

/-! ### Records (chapters 1, 3 and 5) -/

/-- R2. -/
inductive RecState where
  | live
  | retiring
  deriving DecidableEq, Repr

/-- R7. -/
inductive Guard where
  | isOpen
  | holder
  | supervisor
  | fixed
  deriving DecidableEq, Repr

/-- An interest set, R79. In a watch it is not empty. -/
structure Interest where
  value : Bool
  holder : Bool
  life : Bool
  deriving DecidableEq, Repr

/-- The wait of a parked claim, R42: UNLIMITED, or a limit with the serial of its WAIT deadline. -/
inductive Wait where
  | unlimited
  | limited (limit : Ticks) (serial : Serial)
  deriving DecidableEq, Repr

/-- R42. -/
structure ParkedClaim where
  port : PortId
  tag : Tag
  key : Key
  leaseAsked : Ticks
  wait : Wait
  deriving DecidableEq, Repr

/-- R2. `lease` is the serial of the hold's LEASE deadline (R64, R69). -/
structure Record where
  key : Key
  state : RecState
  home : Option HomeId
  guard : Guard
  value : Word
  floor : Word
  ceiling : Word
  generation : Gen
  holder : Option PortId
  holdCount : Nat
  lease : Option Serial
  waiters : List ParkedClaim
  watchers : Vector (Option Interest) 4
  deriving DecidableEq, Repr

/-- An entry of the Key Index, R6. -/
structure IndexEntry where
  key : Key
  slot : Slot
  deriving DecidableEq, Repr

/-- An entry of the Home Map, R98. -/
inductive Home where
  | free
  | occupied (slot : Slot)
  | vacated (imageKey : Key)
  deriving DecidableEq, Repr

/-! ### Deadlines and internal events (chapters 4 and 8) -/

/-- R64. -/
inductive DeadlineKind where
  | lease
  | wait
  deriving DecidableEq, Repr

/-- R64. -/
structure Deadline where
  kind : DeadlineKind
  key : Key
  port : PortId
  due : Word
  serial : Serial
  deriving DecidableEq, Repr

/-- An internal event, R141. -/
inductive Event where
  /-- R67. -/
  | expiry (kind : DeadlineKind) (key : Key) (port : PortId) (serial : Serial)
  /-- R120. -/
  | capture (group : GroupId)
  /-- R125, with the homes of the group that the capture noted VACATED, which R126 reads (log 17). -/
  | committed (group : GroupId) (notedVacated : List (Fin 16))
  /-- R128. -/
  | faulted (group : GroupId)
  /-- R173. -/
  | eviction (port : PortId)
  deriving DecidableEq, Repr

/-! ### The Durable Store (chapters 6 and 7) -/

inductive BankId where
  | a
  | b
  deriving DecidableEq, Repr

/-- The bytes of one bank that do not read erased, by rising offset (R193); Machine/Memory.lean reads and writes it. -/
abbrev Memory := List Host.Cell

/-- The two banks of a group, R97. -/
structure Banks where
  a : Memory
  b : Memory
  deriving DecidableEq, Repr

/-- The persisted fields of a record, R103. -/
structure HomeImage where
  key : Key
  value : Word
  floor : Word
  ceiling : Word
  guard : Guard
  generation : Gen
  deriving DecidableEq, Repr

/-- A home as a capture records it, R121. -/
inductive CapturedHome where
  | occupied (image : HomeImage)
  | free
  | vacated
  deriving DecidableEq, Repr

/-- R116. -/
inductive RewritePhase where
  | captured
  | erasing
  | suspended
  | programming
  | committing
  deriving DecidableEq, Repr

/-- R116. -/
inductive Attempt where
  | first
  | retry
  deriving DecidableEq, Repr

/-- R116: phase and attempt are absent unless the group is REWRITING. -/
inductive GroupState where
  | clean
  | queued
  | rewriting (phase : RewritePhase) (attempt : Attempt)
  | faulted
  | worn
  deriving DecidableEq, Repr

/-- R134; the group is the one whose list holds it. -/
structure ParkedSync where
  port : PortId
  tag : Tag
  key : Key
  captured : Bool
  deriving DecidableEq, Repr

/-- A group record, R108 and R116. `ticks` is the active erasing time of the attempt while ERASING or SUSPENDED
(R122, R137), and the time since the start of the phase while PROGRAMMING or COMMITTING (R123, R124). -/
structure Group where
  state : GroupState
  capture : Option (Vector CapturedHome 16)
  dirtyAgain : Bool
  suspendCount : Nat
  unpersisted : Bool
  syncs : List ParkedSync
  current : Option BankId
  wear : Word
  restoreLost : Bool
  ticks : Nat
  deriving DecidableEq, Repr

/-! ### Replies (chapters 8 and 11) -/

/-- R154. -/
inductive Status where
  | ok | granted | synced | done
  | busy | noKey | keyExists | tableFull | storeFull | range | stale | notHolder | guarded | holdLimit | parkLimit
  | alreadyWaiting | notWaiting | retiring | notDurable | notFaulted | watchLimit | notWatching | privilege
  | badRequest | badOperand
  | waitExpired | cancelled | retired | evicted | storeFault | storeWorn
  deriving DecidableEq, Repr

/-- The outcome flags, R29 to R31. -/
structure OutcomeFlags where
  zero : Bool
  neg : Bool
  limit : Bool
  prior : Bool
  deriving DecidableEq, Repr

/-- R93. -/
inductive Gate where
  | shut
  | isOpen
  deriving DecidableEq, Repr

/-- The record state of a reply, R191: FREE means that the record has gone. -/
inductive ReportedState where
  | free
  | live
  | retiring
  deriving DecidableEq, Repr

/-- The hold fields of a CLAIM reply, R51. -/
structure HoldBlock where
  holder : Option PortId
  count : Nat
  lease : Option Ticks
  waiters : Nat
  deriving DecidableEq, Repr

/-- R13; the generation travels in the reply's header (R191). -/
structure Snapshot where
  key : Key
  state : ReportedState
  home : Option HomeId
  guard : Guard
  value : Word
  floor : Word
  ceiling : Word
  hold : HoldBlock
  waiters : List PortId
  watchers : Vector (Option Interest) 4
  deriving DecidableEq, Repr

/-- R177. -/
structure EvictReport where
  port : PortId
  holds : Nat
  claims : Nat
  syncs : Nat
  watches : Nat
  notices : Nat
  deriving DecidableEq, Repr

/-- R184. -/
structure CensusReport where
  live : Nat
  retiring : Nat
  freeSlots : Nat
  freeHomes : Nat
  occupiedHomes : Nat
  vacatedHomes : Nat
  queueLength : Nat
  clean : Nat
  queued : Nat
  rewriting : Nat
  faulted : Nat
  worn : Nat
  suspended : Bool
  pfw : Bool
  time : Word
  deriving DecidableEq, Repr

/-- R185. -/
structure GroupReport where
  group : GroupId
  state : GroupState
  captureHeld : Bool
  current : Option BankId
  wear : Word
  suspendCount : Nat
  dirtyAgain : Bool
  unpersisted : Bool
  restoreLost : Bool
  syncs : Nat
  freeHomes : Nat
  occupiedHomes : Nat
  vacatedHomes : Nat
  deriving DecidableEq, Repr

/-- The payload of a reply, R152 and R191. -/
inductive Payload where
  | absent
  | home (h : Option HomeId)
  | recState (s : ReportedState)
  | snapshot (s : Snapshot)
  | guard (g : Guard)
  | holder (h : Option PortId)
  | value (v : Word)
  | hold (b : HoldBlock)
  | holderCount (h : Option PortId) (count : Nat)
  | holderWaiters (h : Option PortId) (waiters : Nat)
  | watch (interest : Interest) (value : Word) (holder : Option PortId) (watches : Nat)
  | watchCount (watches : Nat)
  | gate (g : Gate)
  | sync (home : Option HomeId) (state : GroupState) (wear : Word)
  | evict (r : EvictReport)
  | clearFault (group : GroupId) (state : GroupState) (queueLength : Nat)
  | census (r : CensusReport)
  | groupStatus (r : GroupReport)
  deriving DecidableEq, Repr

/-- R152. -/
structure Reply where
  tag : Tag
  code : Byte
  status : Status
  flags : OutcomeFlags
  generation : Option Gen
  payload : Payload
  deriving DecidableEq, Repr

/-! ### Notices (chapter 5) -/

/-- The kinds of a record notice, R85. -/
structure RecordKinds where
  value : Bool
  holder : Bool
  retiring : Bool
  retired : Bool
  leaseLost : Bool
  deriving DecidableEq, Repr

/-- The kinds of a device notice, R84. -/
structure DeviceKinds where
  storeFault : Bool
  storeWorn : Bool
  powerWarn : Bool
  restoreLost : Bool
  deriving DecidableEq, Repr

/-- R85. A device notice has key 0000h (R84). -/
inductive Notice where
  | record (key : Key) (kinds : RecordKinds) (value : Word) (generation : Gen) (holder : Option PortId)
  | device (kinds : DeviceKinds) (group : Option GroupId)
  deriving DecidableEq, Repr

/-- A held notice, R89, and whether its port was evicted while it was held (R95). -/
structure HeldNotice where
  notice : Notice
  evicted : Bool
  deriving DecidableEq, Repr

/-! ### The request ports (chapter 9) -/

/-- An accepted request frame, R161, less its length byte and CRC, which the Port Link has judged. -/
structure RequestFrame where
  code : Byte
  tag : Tag
  key : Key
  operands : List Byte
  deriving DecidableEq, Repr

/-- R166. -/
inductive SubmitResult where
  | none
  | accepted
  | notReady
  | badLength
  | badCrc
  | tagInUse
  | queueFull
  | badTransaction
  deriving DecidableEq, Repr

/-- The transaction in progress, R157. -/
inductive Transaction where
  | none
  /-- Select is asserted and no code byte has been acted on (R158). -/
  | begun
  /-- A FETCH sends this reply, or the empty marker (R167). -/
  | fetch (reply : Option Reply)
  /-- A FETCH-NOTICE sends the held notice (R89). -/
  | notice
  /-- A FETCH-NOTICE sends the empty marker (R91). -/
  | marker
  deriving DecidableEq, Repr

/-- One port: its Port Link (R157), its part of the Notice Unit (chapter 5) and its parked count (R43). `reserved`
lists the tags of the reserved reply entries in the order in which they were reserved, `filled` the filled entries in
the order in which they were filled (R146). `lostSince` says that a notice was dropped since the head was last found
absent by a FETCH-NOTICE (R91). `sdo` lists the bytes the latest transaction drove ahead of its fill bytes (log 23). -/
structure Port where
  prst : Bool
  privilege : Privilege
  requests : List RequestFrame
  reserved : List Tag
  filled : List Reply
  tags : List Tag
  gate : Gate
  lastSubmit : SubmitResult
  transaction : Transaction
  sdo : List Byte
  parked : Nat
  notices : List Notice
  held : Option HeldNotice
  lost : Bool
  lostSince : Bool
  watchCount : Nat
  deriving DecidableEq, Repr

/-- Whether the part is unpowered, held in reset, restoring (R109) or serving (R113). -/
inductive RunState where
  | off
  | reset
  | restoring
  | running
  deriving DecidableEq, Repr

/-- A client of the Table Engine, R141: an internal event, or a request of a port. -/
inductive Client where
  | event (e : Event)
  | request (p : PortId) (f : RequestFrame)
  deriving DecidableEq, Repr

/-- The item in progress, R155: its client, and the one reading of device time that the Table Engine makes for it
(R63, R141). -/
structure Item where
  client : Client
  time : Word
  deriving DecidableEq, Repr

/-- The FTC-512. `events` are the internal events that wait; the one being served is in `item`. -/
structure State where
  pending : List Instr
  phase : RunState
  slots : Vector (Option Record) 512
  index : List IndexEntry
  homeMap : Vector (Vector Home 16) 16
  events : List Event
  pointer : PortId
  item : Option Item
  time : Word
  deadlines : List Deadline
  serial : Serial
  ports : Vector Port 4
  groups : Vector Group 16
  queue : List GroupId
  active : Option GroupId
  suspended : Option GroupId
  pauseOrdered : Bool
  banks : Vector Banks 16
  pfw : Bool
  pfwSeen : Bool
  fresh : Nat
  deriving DecidableEq, Repr

/-- A group record as a reset leaves it until restore sets it (R116; log 9). -/
def blankGroup : Group where
  state := .clean
  capture := none
  dirtyAgain := false
  suspendCount := 0
  unpersisted := false
  syncs := []
  current := none
  wear := 0
  restoreLost := false
  ticks := 0

/-- A port as power-on or RST# leaves it (R95, R176), with the pin level and privilege given. -/
def blankPort (prst : Bool) (privilege : Privilege) : Port where
  prst := prst
  privilege := privilege
  requests := []
  reserved := []
  filled := []
  tags := []
  gate := .shut
  lastSubmit := .none
  transaction := .none
  sdo := []
  parked := 0
  notices := []
  held := none
  lost := false
  lostSince := false
  watchCount := 0

/-- The machine while a device reset is held, before its first restore (R1, R78, R95, R116, R144, R176; logs 5 to 9). -/
def State.reset : State where
  pending := []
  phase := .reset
  slots := Vector.replicate 512 none
  index := []
  homeMap := Vector.replicate 16 (Vector.replicate 16 .free)
  events := []
  pointer := 3
  item := none
  time := 0
  deadlines := []
  serial := 0
  ports := Vector.replicate 4 (blankPort false .operator)
  groups := Vector.replicate 16 blankGroup
  queue := []
  active := none
  suspended := none
  pauseOrdered := false
  banks := Vector.replicate 16 ⟨[], []⟩
  pfw := false
  pfwSeen := false
  fresh := 0

end Sys2Proof.Machine
end

