-- ==== Sys2Proof/Machine/Memory.lean ====
section
/-! DEFINITION. The bytes of a bank. A bank is the list of its bytes that do not read erased, by strictly rising offset
(R193: an erased location reads FFh), so that equal banks are equal lists. -/

namespace Sys2Proof.Machine

/-- R193: what an erased location reads. -/
def erasedByte : Byte := 0xFF

/-- The byte at an offset: FFh where the bank lists none (R193). -/
def Memory.read (m : Memory) (offset : Nat) : Byte :=
  match m with
  | [] => erasedByte
  | c :: rest => if c.1 = offset then c.2 else Memory.read rest offset

/-- The canonical form: offsets strictly rise from `low` and no listed byte is the erased byte. -/
def Memory.risesFrom (low : Nat) (m : Memory) : Bool :=
  match m with
  | [] => true
  | c :: rest => decide (low ≤ c.1) && decide (c.2 ≠ erasedByte) && Memory.risesFrom (c.1 + 1) rest

/-- The canonical form of a bank. -/
def Memory.wf (m : Memory) : Bool := Memory.risesFrom 0 m

/-- Stores one byte, keeping the canonical form: storing the erased byte unlists its offset. -/
def Memory.write (m : Memory) (offset : Nat) (x : Byte) : Memory :=
  match m with
  | [] => if x = erasedByte then [] else [(offset, x)]
  | c :: rest =>
    if c.1 < offset then c :: Memory.write rest offset x
    else if c.1 = offset then (if x = erasedByte then rest else (offset, x) :: rest)
    else if x = erasedByte then c :: rest
    else (offset, x) :: c :: rest

/-- Stores bytes one after another from an offset on. -/
def Memory.writeBytes (m : Memory) (offset : Nat) (xs : List Byte) : Memory :=
  match xs with
  | [] => m
  | x :: rest => Memory.writeBytes (Memory.write m offset x) (offset + 1) rest

/-- An erased bank: every location reads erased (R102). -/
def Memory.erased : Memory := []

/-- The bytes from `offset` on, `count` of them, in offset order. -/
def Memory.readBytes (m : Memory) (offset : Nat) (count : Nat) : List Byte :=
  (List.range count).map fun k => Memory.read m (offset + k)

end Sys2Proof.Machine
end

