-- ==== Sys2Proof/Machine/Frames.lean ====
section
/-! DEFINITION. The byte layouts of chapter 11 and the two CRCs: what a port drives for a reply, a notice, an empty
marker and its status, and what a bank image is. -/

namespace Sys2Proof.Machine

/-! ### CRC-16 and CRC-32 -/

/-- One bit of the CRC-16 of R163, most significant bit first, polynomial 1021h. -/
def crc16Bit (r : BitVec 16) : BitVec 16 :=
  if r.msb then (r <<< 1) ^^^ 0x1021 else r <<< 1

/-- One byte of the CRC-16 of R163. -/
def crc16Byte (r : BitVec 16) (x : Byte) : BitVec 16 :=
  (List.range 8).foldl (fun r _ => crc16Bit r) (r ^^^ (x.setWidth 16 <<< 8))

/-- The CRC-16 of R163: from FFFFh, the remainder not complemented. -/
def crc16 (xs : List Byte) : BitVec 16 := xs.foldl crc16Byte 0xFFFF

/-- One bit of the CRC-32 of R104 in its least-significant-bit-first form (log 18): EDB88320h is 04C11DB7h with its
bits reversed. -/
def crc32Bit (r : BitVec 32) : BitVec 32 :=
  if r.getLsbD 0 then (r >>> 1) ^^^ 0xEDB88320 else r >>> 1

/-- One byte of the CRC-32 of R104. -/
def crc32Byte (r : BitVec 32) (x : Byte) : BitVec 32 :=
  (List.range 8).foldl (fun r _ => crc32Bit r) (r ^^^ x.setWidth 32)

/-- The CRC-32 of R104: from FFFFFFFFh, the final remainder complemented. -/
def crc32 (xs : List Byte) : BitVec 32 := ~~~ xs.foldl crc32Byte 0xFFFFFFFF

/-- A frame's bytes with its CRC-16 behind them (R163). -/
def withCrc16 (xs : List Byte) : List Byte := xs ++ bytes16 (crc16 xs)

/-! ### Codes of fields (R188, R190, R191) -/

def byteOf (n : Nat) : Byte := BitVec.ofNat 8 n

/-- R188: a port, FFh where it is absent. -/
def portByte : Option PortId → Byte
  | none => 0xFF
  | some p => byteOf p.val

def flagByte (x : Bool) : Byte := if x then 1 else 0

def Guard.byte : Guard → Byte
  | .isOpen => 0
  | .holder => 1
  | .supervisor => 2
  | .fixed => 3

/-- R190; no other byte is a guard. -/
def Guard.ofByte? (x : Byte) : Option Guard :=
  if x = 0 then some .isOpen else if x = 1 then some .holder
  else if x = 2 then some .supervisor else if x = 3 then some .fixed else none

def Gate.byte : Gate → Byte
  | .shut => 0
  | .isOpen => 1

def Gate.ofByte? (x : Byte) : Option Gate :=
  if x = 0 then some .shut else if x = 1 then some .isOpen else none

/-- R190: bit 0 VALUE, bit 1 HOLDER, bit 2 LIFE. -/
def Interest.byte (i : Interest) : Byte :=
  flagByte i.value ||| (flagByte i.holder <<< 1) ||| (flagByte i.life <<< 2)

/-- R190: 00h and any byte with a bit of 3 to 7 set are no interest set. -/
def Interest.ofByte? (x : Byte) : Option Interest :=
  if x = 0 ∨ x.toNat ≥ 8 then none else some ⟨x.getLsbD 0, x.getLsbD 1, x.getLsbD 2⟩

def ReportedState.byte : ReportedState → Byte
  | .free => 0
  | .live => 1
  | .retiring => 2

def GroupState.byte : GroupState → Byte
  | .clean => 0
  | .queued => 1
  | .rewriting _ _ => 2
  | .faulted => 3
  | .worn => 4

def RewritePhase.byte : RewritePhase → Byte
  | .captured => 1
  | .erasing => 2
  | .suspended => 3
  | .programming => 4
  | .committing => 5

def Attempt.byte : Attempt → Byte
  | .first => 1
  | .retry => 2

/-- R191: the phase and the attempt, 00h where absent. -/
def GroupState.phaseBytes : GroupState → List Byte
  | .rewriting ph at' => [ph.byte, at'.byte]
  | .clean | .queued | .faulted | .worn => [0, 0]

def bankByte : Option BankId → Byte
  | none => 0
  | some .a => 1
  | some .b => 2

/-- R191: FFh FFh for a volatile record. -/
def homeBytes : Option HomeId → List Byte
  | none => [0xFF, 0xFF]
  | some h => [byteOf h.group.val, byteOf h.home.val]

/-- R166 and R189. -/
def SubmitResult.byte : SubmitResult → Byte
  | .none => 0
  | .accepted => 1
  | .notReady => 2
  | .badLength => 3
  | .badCrc => 4
  | .tagInUse => 5
  | .queueFull => 6
  | .badTransaction => 7

/-- R191. -/
def Status.byte : Status → Byte
  | .ok => 0x00 | .granted => 0x01 | .synced => 0x02 | .done => 0x03
  | .busy => 0x10 | .noKey => 0x11 | .keyExists => 0x12 | .tableFull => 0x13 | .storeFull => 0x14
  | .range => 0x15 | .stale => 0x16 | .notHolder => 0x17 | .guarded => 0x18 | .holdLimit => 0x19
  | .parkLimit => 0x1A | .alreadyWaiting => 0x1B | .notWaiting => 0x1C | .retiring => 0x1D | .notDurable => 0x1E
  | .notFaulted => 0x1F | .watchLimit => 0x20 | .notWatching => 0x21 | .privilege => 0x22 | .badRequest => 0x23
  | .badOperand => 0x24
  | .waitExpired => 0x30 | .cancelled => 0x31 | .retired => 0x32 | .evicted => 0x33 | .storeFault => 0x34
  | .storeWorn => 0x35

/-! ### Reply frames (R191) -/

/-- The hold block of R191. -/
def HoldBlock.bytes (b : HoldBlock) : List Byte :=
  [portByte b.holder, byteOf b.count, flagByte b.lease.isSome] ++ bytes16 (b.lease.getD 0) ++ [byteOf b.waiters]

/-- The three waiter places of a snapshot, unused ones FFh (R191). -/
def waiterBytes (ports : List PortId) : List Byte :=
  (List.range 3).map fun k => portByte ports[k]?

/-- The interest bytes of P0 to P3, 00h for a port that does not watch (R191). -/
def watcherBytes (w : Vector (Option Interest) 4) : List Byte :=
  w.toList.map fun i => match i with
    | none => 0
    | some i => i.byte

/-- The 32 bytes of a snapshot (R191). -/
def Snapshot.bytes (s : Snapshot) : List Byte :=
  bytes16 s.key ++ [s.state.byte] ++ homeBytes s.home ++ [s.guard.byte] ++ bytes32 s.value ++ bytes32 s.floor
    ++ bytes32 s.ceiling ++ s.hold.bytes ++ [byteOf s.waiters.length] ++ waiterBytes s.waiters ++ watcherBytes s.watchers

/-- The payload bytes of R191. -/
def Payload.bytes : Payload → List Byte
  | .absent => []
  | .home h => homeBytes h
  | .recState s => [s.byte]
  | .snapshot s => s.bytes
  | .guard g => [g.byte]
  | .holder h => [portByte h]
  | .value v => bytes32 v
  | .hold b => b.bytes
  | .holderCount h n => [portByte h, byteOf n]
  | .holderWaiters h n => [portByte h, byteOf n]
  | .watch i v h n => [i.byte] ++ bytes32 v ++ [portByte h, byteOf n]
  | .watchCount n => [byteOf n]
  | .gate g => [g.byte]
  | .sync h st w => homeBytes h ++ [st.byte] ++ bytes32 w
  | .evict r => [byteOf r.port.val] ++ bytes16 (BitVec.ofNat 16 r.holds)
      ++ [byteOf r.claims, byteOf r.syncs, byteOf r.watches, byteOf r.notices]
  | .clearFault g st n => [byteOf g.val, st.byte, byteOf n]
  | .census r => bytes16 (BitVec.ofNat 16 r.live) ++ bytes16 (BitVec.ofNat 16 r.retiring)
      ++ bytes16 (BitVec.ofNat 16 r.freeSlots) ++ bytes16 (BitVec.ofNat 16 r.freeHomes)
      ++ bytes16 (BitVec.ofNat 16 r.occupiedHomes) ++ bytes16 (BitVec.ofNat 16 r.vacatedHomes)
      ++ [byteOf r.queueLength, byteOf r.clean, byteOf r.queued, byteOf r.rewriting, byteOf r.faulted, byteOf r.worn,
          flagByte r.suspended ||| (flagByte r.pfw <<< 1)] ++ bytes32 r.time
  | .groupStatus r => [byteOf r.group.val, r.state.byte] ++ r.state.phaseBytes
      ++ [flagByte r.captureHeld, bankByte r.current] ++ bytes32 r.wear
      ++ [byteOf r.suspendCount,
          flagByte r.dirtyAgain ||| (flagByte r.unpersisted <<< 1) ||| (flagByte r.restoreLost <<< 2),
          byteOf r.syncs, byteOf r.freeHomes, byteOf r.occupiedHomes, byteOf r.vacatedHomes]

/-- The flags byte of R191: bit 7 says that the generation is present. -/
def Reply.flagsByte (r : Reply) : Byte :=
  flagByte r.flags.zero ||| (flagByte r.flags.neg <<< 1) ||| (flagByte r.flags.limit <<< 2)
    ||| (flagByte r.flags.prior <<< 3) ||| (flagByte r.generation.isSome <<< 7)

/-- The reply frame of R191. -/
def Reply.frame (r : Reply) : List Byte :=
  withCrc16 ([byteOf (9 + r.payload.bytes.length), r.code, r.tag.setWidth 8, r.status.byte, r.flagsByte]
    ++ bytes16 (r.generation.getD 0) ++ r.payload.bytes)

/-! ### Notice frames and the empty marker (R192) -/

def RecordKinds.byte (k : RecordKinds) : Byte :=
  flagByte k.value ||| (flagByte k.holder <<< 1) ||| (flagByte k.retiring <<< 2) ||| (flagByte k.retired <<< 3)
    ||| (flagByte k.leaseLost <<< 4)

def DeviceKinds.byte (k : DeviceKinds) : Byte :=
  flagByte k.storeFault ||| (flagByte k.storeWorn <<< 1) ||| (flagByte k.powerWarn <<< 2)
    ||| (flagByte k.restoreLost <<< 3)

def groupByte : Option GroupId → Byte
  | none => 0xFF
  | some g => byteOf g.val

/-- The 14 bytes of a notice frame, R192. -/
def Notice.frame : Notice → List Byte
  | .record key kinds value generation holder =>
    withCrc16 ([0x0E] ++ bytes16 key ++ [kinds.byte] ++ bytes32 value ++ bytes16 generation ++ [portByte holder, 0xFF])
  | .device kinds group =>
    withCrc16 ([0x0E] ++ bytes16 0 ++ [kinds.byte] ++ bytes32 0 ++ bytes16 0 ++ [0xFF, groupByte group])

/-- The 5 bytes of the empty marker, R192, with its loss byte. -/
def emptyMarker (loss : Bool) : List Byte := withCrc16 [0x05, 0x00, flagByte loss]

/-! ### Status (R159, R169, R189) -/

/-- REPLY-WAITING, R159. -/
def Port.replyWaiting (q : Port) : Bool := !q.filled.isEmpty

/-- NOTICE-WAITING, R94: a held notice is not counted. -/
def Port.noticeWaiting (q : Port) : Bool := !q.notices.isEmpty

/-- The ATTN# output of a port, true when it is asserted (R94, R171). It has no memory of its own. -/
def Port.attn (q : Port) : Bool :=
  q.replyWaiting || (decide (q.gate = .isOpen) && (q.noticeWaiting || q.lost))

/-- READY, R170. -/
def State.ready (s : State) : Bool := decide (s.phase = .running)

/-- The status byte of R189. -/
def statusByte (ready : Bool) (q : Port) : Byte :=
  (flagByte ready <<< 7) ||| (flagByte q.replyWaiting <<< 6) ||| (flagByte q.noticeWaiting <<< 5)
    ||| (flagByte (decide (q.gate = .isOpen)) <<< 4) ||| (flagByte q.lost <<< 3)
    ||| (flagByte (decide (q.privilege = .supervisor)) <<< 2)
    ||| (flagByte (decide (q.requests.length = Config.requestDepth)) <<< 1)

/-- The six bytes of the extended status, R169 and R189. -/
def Port.extendedStatus (q : Port) : List Byte :=
  [byteOf q.filled.length, byteOf q.reserved.length, byteOf q.requests.length, byteOf q.parked,
   byteOf q.notices.length, q.lastSubmit.byte]

/-- R158, R189: byte `k` that the port drives in its latest transaction: what that has to drive, then fill bytes. -/
def Port.driven (q : Port) (k : Nat) : Byte := q.sdo.getD k Config.fillByte

/-! ### Bank images (R193) -/

/-- The commit mark's pattern, R193. -/
def commitMark : List Byte := [0x3C, 0x5A, 0xA5, 0xC3]

/-- The 18 bytes of a home image; an empty one is all 0 (R103, R193). -/
def CapturedHome.bytes : CapturedHome → List Byte
  | .occupied i => [1] ++ bytes16 i.key ++ bytes32 i.value ++ bytes32 i.floor ++ bytes32 i.ceiling ++ [i.guard.byte]
      ++ bytes16 i.generation
  | .free | .vacated => List.replicate 18 0

/-- Header and home images, bytes 0 to 292 (R193). -/
def imageBody (g : GroupId) (wear : Word) (capture : Vector CapturedHome 16) : List Byte :=
  [byteOf g.val] ++ bytes32 wear ++ (capture.toList.map CapturedHome.bytes).flatten

/-- Bytes 0 to 296: the image before its commit mark (R123, R193). -/
def imageBytes (g : GroupId) (wear : Word) (capture : Vector CapturedHome 16) : List Byte :=
  imageBody g wear capture ++ bytes32 (crc32 (imageBody g wear capture))

end Sys2Proof.Machine
end

