-- ==== Sys2Proof/Machine/Ops.lean ====
section
/-! DEFINITION. The named operations over the state that the meanings share: ports, slots and the Key Index, the Home
Map, deadlines, notices, reply entries, taking the next client and the item in progress. -/

namespace Sys2Proof.Machine

/-! ### Ports -/

/-- Changes every port by `f`. -/
def State.mapPorts (s : State) (f : PortId → Port → Port) : State :=
  { s with ports := #v[f 0 s.ports[0], f 1 s.ports[1], f 2 s.ports[2], f 3 s.ports[3]] }

/-- Changes one port. -/
def State.modifyPort (s : State) (p : PortId) (f : Port → Port) : State :=
  { s with ports := s.ports.set p (f s.ports[p]) }

def State.supervisor (s : State) (p : PortId) : Bool := decide (s.ports[p].privilege = .supervisor)

/-! ### Slots and the Key Index (R1, R6) -/

def State.setSlot (s : State) (i : Slot) (r : Option Record) : State :=
  { s with slots := s.slots.set i r }

/-- R5. -/
def isRecordKey (k : Key) : Bool := decide (k ≠ 0x0000) && decide (k ≠ 0xFFFF)

/-- The record with a key, found through the Key Index, with its slot (R6). -/
def State.lookup (s : State) (k : Key) : Option (Slot × Record) :=
  match s.index.find? (fun e => decide (e.key = k)) with
  | none => none
  | some e => s.slots[e.slot].map fun r => (e.slot, r)

/-- Adds an entry at its place in key order (R6). -/
def insertIndex (e : IndexEntry) : List IndexEntry → List IndexEntry
  | [] => [e]
  | x :: rest => if e.key < x.key then e :: x :: rest else x :: insertIndex e rest

/-- The lowest-numbered FREE slot (R1). -/
def State.freeSlot (s : State) : Option Slot := (List.finRange 512).find? fun i => s.slots[i].isNone

/-! ### Homes (R97, R98) -/

def State.home (s : State) (h : HomeId) : Home := s.homeMap[h.group][h.home]

def State.setHome (s : State) (h : HomeId) (x : Home) : State :=
  { s with homeMap := s.homeMap.set h.group (s.homeMap[h.group].set h.home x) }

/-- The 256 homes, by group and then by home (R11). -/
def allHomes : List HomeId :=
  (List.finRange 16).flatMap fun g => (List.finRange 16).map fun h => ⟨g, h⟩

/-! ### Groups -/

def State.setGroup (s : State) (g : GroupId) (x : Group) : State :=
  { s with groups := s.groups.set g x }

/-- The dirty mark of R119. -/
def State.dirtyMark (s : State) (g : GroupId) : State :=
  match s.groups[g].state with
  | .clean => { s.setGroup g { s.groups[g] with state := .queued } with queue := s.queue ++ [g] }
  | .queued => s
  | .rewriting _ _ => s.setGroup g { s.groups[g] with dirtyAgain := true }
  | .faulted | .worn => s.setGroup g { s.groups[g] with unpersisted := true }

/-- The dirty mark of a record's group; a volatile record makes none (R26). -/
def State.dirtyMarkOf (s : State) (r : Record) : State :=
  match r.home with
  | none => s
  | some h => s.dirtyMark h.group

/-! ### The Deadline Timer (R64 to R67) -/

/-- The serial counter's next count; 0 is never a serial (R64). -/
def succSerial (n : Serial) : Serial := if n = BitVec.allOnes 32 then 1 else n + 1

/-- The next count that no entry present and no expiry event waiting carries (R64). -/
def nextFreeSerial (used : List Serial) (n : Serial) : (fuel : Nat) → Serial
  | 0 => succSerial n
  | fuel + 1 => if succSerial n ∈ used then nextFreeSerial used (succSerial n) fuel else succSerial n

/-- The serials of expiry events raised but not yet taken. -/
def Event.serial? : Event → Option Serial
  | .expiry _ _ _ n => some n
  | .capture _ | .committed _ _ | .faulted _ | .eviction _ => none

def State.usedSerials (s : State) : List Serial :=
  s.deadlines.map Deadline.serial ++ s.events.filterMap Event.serial?

/-- The serial the next entry added is given (R64). -/
def State.nextSerial (s : State) : Serial :=
  nextFreeSerial s.usedSerials s.serial (s.usedSerials.length + 1)

/-- Places an entry behind every entry that is due no later, counting from `now` (R65). -/
def insertDeadline (now : Word) (d : Deadline) : List Deadline → List Deadline
  | [] => [d]
  | e :: rest => if d.due - now < e.due - now then d :: e :: rest else e :: insertDeadline now d rest

/-- The expiry event of an entry (R67). -/
def Deadline.event (d : Deadline) : Event := .expiry d.kind d.key d.port d.serial

/-- R63, R141: device time as the Table Engine read it for the item in progress. -/
def State.reading (s : State) : Word :=
  match s.item with
  | none => s.time
  | some x => x.time

/-- R67: whether a due tick has been reached. -/
def reached (now due : Word) : Bool := decide ((now - due).toNat ≤ 65535)

/-- R67: the entries at the head of the list whose due tick is reached, in list order. -/
def State.dueDeadlines (s : State) : List Deadline := s.deadlines.takeWhile fun d => reached s.time d.due

/-- The list without them. -/
def State.laterDeadlines (s : State) : List Deadline := s.deadlines.dropWhile fun d => reached s.time d.due

/-- R67: device time has advanced, since the item's reading, to the due tick of an entry of `len` ticks. -/
def State.late (s : State) (len : Ticks) : Bool := decide (len.toNat ≤ (s.time - s.reading).toNat)

/-- Adds an entry due `len` ticks from the item's reading, under the next serial (R64, R66). One whose due tick device
time has already reached is taken as soon as it is added, and its expiry event raised behind those of the entries of the
list that are due, which were added earlier and fall due first (R67, R77). -/
def State.addDeadline (s : State) (kind : DeadlineKind) (key : Key) (port : PortId) (len : Ticks) : State :=
  let d : Deadline := ⟨kind, key, port, s.reading + len.setWidth 32, s.nextSerial⟩
  if s.late len then
    { s with
      deadlines := s.laterDeadlines
      events := s.events ++ (s.dueDeadlines ++ [d]).map Deadline.event
      serial := s.nextSerial }
  else { s with deadlines := insertDeadline s.time d s.deadlines, serial := s.nextSerial }

/-- Removes an entry by its serial; an entry that has fallen due is not there (R66). -/
def State.removeDeadline (s : State) (n : Option Serial) : State :=
  match n with
  | none => s
  | some n => { s with deadlines := s.deadlines.filter fun d => decide (d.serial ≠ n) }

/-- R13, R51, R141: the ticks left of a record's lease, counted from the item's reading; 0 once its due tick is reached,
although its event is not taken (log 30). -/
def State.leaseRemaining (s : State) (r : Record) : Option Ticks :=
  r.lease.map fun n =>
    match s.deadlines.find? (fun d => decide (d.serial = n)) with
    | none => 0
    | some d => if reached s.reading d.due then 0 else (d.due - s.reading).setWidth 16

/-- R51: the lease remaining of a lease that the item itself sets, counted from its reading; absent for length 0. -/
def newLease (len : Ticks) : Option Ticks := if len = 0 then none else some len

/-- The hold fields of a record as they stand (R51). -/
def State.holdBlock (s : State) (r : Record) : HoldBlock :=
  ⟨r.holder, r.holdCount, s.leaseRemaining r, r.waiters.length⟩

def Wait.serial? : Wait → Option Serial
  | .unlimited => none
  | .limited _ n => some n

/-! ### Notices (R85 to R88) -/

def Notice.sameKey : Notice → Notice → Bool
  | .record k .., .record k' .. => decide (k = k')
  | .device .., .device .. => true
  | .record .., .device .. => false
  | .device .., .record .. => false

def RecordKinds.union (a b : RecordKinds) : RecordKinds :=
  ⟨a.value || b.value, a.holder || b.holder, a.retiring || b.retiring, a.retired || b.retired,
   a.leaseLost || b.leaseLost⟩

def DeviceKinds.union (a b : DeviceKinds) : DeviceKinds :=
  ⟨a.storeFault || b.storeFault, a.storeWorn || b.storeWorn, a.powerWarn || b.powerWarn,
   a.restoreLost || b.restoreLost⟩

/-- R87: `new` merged into `old`, of the same key. -/
def Notice.merge : (old new : Notice) → Notice
  | .record _ kinds _ _ _, .record k kinds' v gen h => .record k (kinds.union kinds') v gen h
  | .device kinds g, .device kinds' g' => .device (kinds.union kinds') (if g = g' then g else none)
  | .record .., .device kinds g => .device kinds g
  | .device .., .record k kinds v gen h => .record k kinds v gen h

/-- Places taken of the eight: the queue and the held notice (R86). -/
def Port.noticeCount (q : Port) : Nat := q.notices.length + (if q.held.isSome then 1 else 0)

/-- R86: a notice merges in place, joins the tail, or is dropped with NOTICE-LOST. -/
def Port.handNotice (q : Port) (n : Notice) : Port :=
  if q.notices.any (fun m => m.sameKey n) then
    { q with notices := q.notices.map fun m => if m.sameKey n then m.merge n else m }
  else if q.noticeCount < Config.noticeDepth then { q with notices := q.notices ++ [n] }
  else { q with lost := true, lostSince := true }

def State.giveNotice (s : State) (p : PortId) (n : Notice) : State := s.modifyPort p fun q => q.handNotice n

/-- Hands a notice to every watcher whose interest includes what `wants` asks (R83). -/
def State.notifyWatchers (s : State) (w : Vector (Option Interest) 4) (wants : Interest → Bool) (n : Notice) : State :=
  s.mapPorts fun p q => if w[p].any wants then q.handNotice n else q

/-- R84: a device notice goes to every port strapped SUPERVISOR. -/
def State.deviceNotice (s : State) (kinds : DeviceKinds) (g : Option GroupId) : State :=
  s.mapPorts fun _ q => if q.privilege = .supervisor then q.handNotice (.device kinds g) else q

def kindValue : RecordKinds := ⟨true, false, false, false, false⟩
def kindHolder : RecordKinds := ⟨false, true, false, false, false⟩
def kindRetiring : RecordKinds := ⟨false, false, true, false, false⟩
def kindRetired : RecordKinds := ⟨false, false, false, true, false⟩
def kindLeaseLost : RecordKinds := ⟨false, false, false, false, true⟩

/-- A notice of a record as it stands (R83). -/
def Record.notice (r : Record) (kinds : RecordKinds) : Notice := .record r.key kinds r.value r.generation r.holder

/-! ### Reply entries and parked counts (R43, R146 to R149) -/

def Port.freeEntries (q : Port) : Nat := Config.replyEntries - (q.reserved.length + q.filled.length)

/-- R146, R149: a reply fills the entry reserved under its tag; where PRST# has freed that entry it is discarded. -/
def Port.fill (q : Port) (r : Reply) : Port :=
  if r.tag ∈ q.reserved then { q with reserved := q.reserved.erase r.tag, filled := q.filled ++ [r] } else q

def State.fill (s : State) (p : PortId) (r : Reply) : State := s.modifyPort p fun q => q.fill r

/-- R43: one parked request of the port fewer. -/
def State.unpark (s : State) (p : PortId) : State := s.modifyPort p fun q => { q with parked := q.parked - 1 }

def State.park (s : State) (p : PortId) : State := s.modifyPort p fun q => { q with parked := q.parked + 1 }

def noFlags : OutcomeFlags := ⟨false, false, false, false⟩

def claimCode : Byte := 0x30
def syncCode : Byte := 0x50

/-- The reply to a parked CLAIM (R52). -/
def claimReply (tag : Tag) (status : Status) (payload : Payload) : Reply :=
  ⟨tag, claimCode, status, noFlags, none, payload⟩

/-! ### Clients of the Table Engine and its items (R141 to R147) -/

/-- R145: a port's head request, while the port has a free reply entry. -/
def Port.eligible (q : Port) : Option RequestFrame := if q.freeEntries = 0 then none else q.requests.head?

/-- R144: the ports in round-robin order, beginning behind the port served last. -/
def roundRobin (pointer : PortId) : List PortId := [pointer + 1, pointer + 2, pointer + 3, pointer]

/-- R143: the client that the Table Engine takes when it is free. It takes none unless it is serving (R109, R113). -/
def State.client (s : State) : Option Client :=
  if s.phase = .running then
    match s.events with
    | e :: _ => some (.event e)
    | [] => (roundRobin s.pointer).findSome? fun p => (s.ports[p].eligible).map fun f => .request p f
  else none

/-- R142: the event at the head leaves the list as the engine takes it. -/
def State.takeEvent (s : State) (e : Event) : State :=
  { s with events := s.events.tail, item := some ⟨.event e, s.time⟩ }

/-- R147: the request leaves the head of its queue as the engine takes it, an entry is reserved under its tag, and the
pointer names the port (R144). -/
def State.takeRequest (s : State) (p : PortId) (f : RequestFrame) : State :=
  { s.modifyPort p fun q => { q with requests := q.requests.tail, reserved := q.reserved ++ [f.tag] } with
    pointer := p, item := some ⟨.request p f, s.time⟩ }

/-- R143: a free engine takes the first client that is there, and its item begins. -/
def State.engaged (s : State) : State :=
  match s.item with
  | some _ => s
  | none =>
    match s.client with
    | none => s
    | some (.event e) => s.takeEvent e
    | some (.request p f) => s.takeRequest p f

/-- R141: the item in progress ends, and the next client is taken. -/
def State.finish (s : State) : State := State.engaged { s with item := none }

/-- The request of port `p`, if its item is in progress. -/
def State.request (s : State) (p : PortId) : Option RequestFrame :=
  match s.item with
  | some ⟨.request q f, _⟩ => if q = p then some f else none
  | some ⟨.event _, _⟩ => none
  | none => none

/-- The internal event whose item is in progress. -/
def State.event (s : State) : Option Event :=
  match s.item with
  | some ⟨.event e, _⟩ => some e
  | some ⟨.request _ _, _⟩ => none
  | none => none

/-- R142: events join the tail of the list in the order they are raised; a free engine takes the first (R143). -/
def State.raiseAll (s : State) (es : List Event) : State := State.engaged { s with events := s.events ++ es }

/-- R142. -/
def State.raise (s : State) (e : Event) : State := s.raiseAll [e]

end Sys2Proof.Machine
end

