-- ==== Sys2Proof/Machine/Operands.lean ====
section
/-! DEFINITION. The operands of a request frame (R190), the checks that many requests share (R150) and the reply that
the item of a request fills (R152). -/

namespace Sys2Proof.Machine

/-! ### Operand fields -/

/-- One operand byte. -/
def RequestFrame.byteAt (f : RequestFrame) (k : Nat) : Byte := f.operands.getD k 0

/-- A two-byte operand, high byte first (R188). -/
def RequestFrame.half (f : RequestFrame) (k : Nat) : BitVec 16 := f.byteAt k ++ f.byteAt (k + 1)

/-- A four-byte operand, high byte first (R188). -/
def RequestFrame.word (f : RequestFrame) (k : Nat) : Word :=
  (f.byteAt k ++ f.byteAt (k + 1)) ++ (f.byteAt (k + 2) ++ f.byteAt (k + 3))

/-- The operand length laid down for a request code; none for a code of no request (R151, R190). -/
def operandLength (code : Byte) : Option Nat :=
  match code.toNat with
  | 0x10 => some 14
  | 0x11 | 0x12 | 0x13 => some 0
  | 0x14 => some 1
  | 0x20 | 0x22 | 0x25 | 0x26 | 0x23 | 0x24 => some 4
  | 0x21 => some 6
  | 0x30 => some 5
  | 0x31 => some 1
  | 0x32 => some 2
  | 0x33 => some 0
  | 0x40 => some 1
  | 0x41 => some 0
  | 0x42 => some 1
  | 0x50 => some 0
  | 0x60 | 0x61 => some 1
  | 0x62 => some 0
  | 0x63 => some 1
  | _ => none

/-- Steps 1 and 2 of R150: a known code with its operand length. -/
def RequestFrame.sound (f : RequestFrame) : Bool := decide (operandLength f.code = some f.operands.length)

/-! ### Answering (R152) -/

/-- What a reply says beyond its tag and code. -/
structure Answer where
  status : Status
  flags : OutcomeFlags
  generation : Option Gen
  payload : Payload
  deriving DecidableEq, Repr

/-- A reply with a status alone. -/
def plain (st : Status) : Answer := ⟨st, noFlags, none, .absent⟩

/-- A reply with a status and a payload. -/
def answerWith (st : Status) (payload : Payload) : Answer := ⟨st, noFlags, none, payload⟩

def Answer.reply (a : Answer) (f : RequestFrame) : Reply := ⟨f.tag, f.code, a.status, a.flags, a.generation, a.payload⟩

/-- Fills the reply of the item's own request (R147). -/
def State.answer (s : State) (p : PortId) (f : RequestFrame) (a : Answer) : State := s.fill p (a.reply f)

/-! ### The item of a request and its shared checks (R147, R150) -/

/-- The row of a request: where port `p`'s request is in progress and is a sound frame of code `code`, `body` makes the
item's effects and the item ends; otherwise the row's event does not come about (log 2, log 3). -/
def serve (code : Byte) (p : PortId) (s : State) (body : RequestFrame → State → State) : State :=
  match s.request p with
  | none => s
  | some f => if f.code = code ∧ f.sound then (body f s).finish else s

/-- Steps 4 and 5 of R150 for a request that needs an existing record. -/
def withRecord (p : PortId) (f : RequestFrame) (s : State) (body : Slot → Record → State) : State :=
  if isRecordKey f.key then
    match s.lookup f.key with
    | none => s.answer p f (plain .noKey)
    | some (i, r) => body i r
  else s.answer p f (plain .badOperand)

/-- Steps 4 to 6 of R150 for a request that needs a LIVE record. -/
def withLiveRecord (p : PortId) (f : RequestFrame) (s : State) (body : Slot → Record → State) : State :=
  withRecord p f s fun i r => if r.state = .live then body i r else s.answer p f (plain .retiring)

/-- The guard check of R7: the status it refuses with, if it does. -/
def guardRefusal (r : Record) (p : PortId) (supervisor : Bool) : Option Status :=
  match r.guard with
  | .isOpen => none
  | .holder => if r.holder = some p then none else some .notHolder
  | .supervisor => if supervisor then none else some .guarded
  | .fixed => some .guarded

end Sys2Proof.Machine
end

