-- ==== Sys2Proof/Machine/Flags.lean ====
section
/-! DEFINITION. The arithmetic of value updates and every outcome flag (chapter 2). -/

namespace Sys2Proof.Machine

/-- R24: whether an exact result lies between the record's floor and ceiling, inclusive. -/
def inBounds (r : Record) (x : Int) : Bool := decide (r.floor.toInt ≤ x) && decide (x ≤ r.ceiling.toInt)

/-- R29 to R31: ZERO and NEG describe the value the reply carries. -/
def flagsFor (v : Word) (limit prior : Bool) : OutcomeFlags := ⟨decide (v = 0), decide (v.toInt < 0), limit, prior⟩

/-- What an update that passed the guard comes to: a refusal with its PRIOR, or the value to leave with LIMIT and
PRIOR. -/
inductive UpdateResult where
  | refused (st : Status) (prior : Bool)
  | leaves (v : Word) (limit prior : Bool)
  deriving DecidableEq, Repr

/-- R32. -/
def setResult (v : Word) (r : Record) : UpdateResult :=
  if inBounds r v.toInt then .leaves v false false else .refused .range false

/-- R33: the range test comes before the generation test. -/
def setIfResult (v : Word) (g : Gen) (r : Record) : UpdateResult :=
  if inBounds r v.toInt then
    if r.generation = g then .leaves v false false else .refused .stale false
  else .refused .range false

/-- R34: the exact sum, clipped. -/
def addResult (d : Word) (r : Record) : UpdateResult :=
  if r.ceiling.toInt < r.value.toInt + d.toInt then .leaves r.ceiling true false
  else if r.value.toInt + d.toInt < r.floor.toInt then .leaves r.floor true false
  else .leaves (BitVec.ofInt 32 (r.value.toInt + d.toInt)) false false

/-- R35: all of `n` or none of it. -/
def takeResult (n : Word) (r : Record) : UpdateResult :=
  if r.value.toInt - n.toNat < r.floor.toInt then .leaves r.value true false
  else .leaves (BitVec.ofInt 32 (r.value.toInt - n.toNat)) false false

/-- R36: all of `n` or none of it. -/
def giveResult (n : Word) (r : Record) : UpdateResult :=
  if r.ceiling.toInt < r.value.toInt + n.toNat then .leaves r.value true false
  else .leaves (BitVec.ofInt 32 (r.value.toInt + n.toNat)) false false

/-- R31: the value the record held has a bit of the mask set. -/
def priorFlag (m : Word) (r : Record) : Bool := decide (r.value &&& m ≠ 0)

/-- R37. -/
def bitsetResult (m : Word) (r : Record) : UpdateResult :=
  if inBounds r (r.value ||| m).toInt then .leaves (r.value ||| m) false (priorFlag m r)
  else .refused .range (priorFlag m r)

/-- R38. -/
def bitclrResult (m : Word) (r : Record) : UpdateResult :=
  if inBounds r (r.value &&& ~~~ m).toInt then .leaves (r.value &&& ~~~ m) false (priorFlag m r)
  else .refused .range (priorFlag m r)

/-- R35, R36: `n` is at most 2,147,483,647. -/
def countInRange (n : Word) : Bool := !n.msb

end Sys2Proof.Machine
end

