-- ==== Sys2Proof/Machine/HoldOps.lean ====
section
/-! DEFINITION. The shared operations on holds, parked claims and the removal of records (chapters 1, 3 and 4). -/

namespace Sys2Proof.Machine

/-! ### Removal of a record (R20) -/

/-- R20: each watching port's watch count falls by one. -/
def State.dropWatches (s : State) (w : Vector (Option Interest) 4) : State :=
  s.mapPorts fun p q => if w[p].isSome then { q with watchCount := q.watchCount - 1 } else q

/-- R20: a durable record's home becomes VACATED under its key, and its group is given a dirty mark. -/
def State.vacateHome (s : State) (r : Record) : State :=
  match r.home with
  | none => s
  | some h => (s.setHome h (.vacated r.key)).dirtyMark h.group

/-- R20: the removal of the record in a slot. -/
def State.remove (s : State) (i : Slot) : State :=
  match s.slots[i] with
  | none => s
  | some r =>
    let notice := { r with holder := none }.notice kindRetired
    let s := (s.notifyWatchers r.watchers (fun w => w.life) notice).dropWatches r.watchers
    let s := { s with index := s.index.filter fun e => decide (e.key ≠ r.key) }
    (s.vacateHome r).setSlot i none

/-! ### Holds (R46, R55 to R57) -/

/-- Makes a port the holder with count 1 and, for a length of 1 or more, a new lease (R46, R56). -/
def State.grant (s : State) (i : Slot) (r : Record) (p : PortId) (len : Ticks) : State :=
  if len = 0 then s.setSlot i (some { r with holder := some p, holdCount := 1, lease := none })
  else
    (s.addDeadline .lease r.key p len).setSlot i
      (some { r with holder := some p, holdCount := 1, lease := some s.nextSerial })

/-- Gives each watcher with HOLDER interest a HOLDER notice of the record as it stands (R46, R56, R57). -/
def State.notifyHolder (s : State) (i : Slot) : State :=
  match s.slots[i] with
  | none => s
  | some r => s.notifyWatchers r.watchers (fun w => w.holder) (r.notice kindHolder)

/-- R51, R56: the reply of a parked claim that a handoff grants: its own port, count 1, the lease it asked, and the
claims still parked. -/
def State.fillGranted (s : State) (w : ParkedClaim) (parked : Nat) : State :=
  s.fill w.port (claimReply w.tag .granted (.hold ⟨some w.port, 1, newLease w.leaseAsked, parked⟩))

/-- Fills a parked claim's reply with the hold as it stands (R51, R52). -/
def State.fillClaim (s : State) (i : Slot) (w : ParkedClaim) (st : Status) : State :=
  match s.slots[i] with
  | none => s
  | some r => s.fill w.port (claimReply w.tag st (.hold (s.holdBlock r)))

/-- Steps 2 and 3 of R52. -/
def State.dropClaim (s : State) (w : ParkedClaim) : State :=
  (s.removeDeadline w.wait.serial?).unpark w.port

/-- The handoff of R56, and R57 where no claim waits: a RETIRING record is then removed. -/
def State.handoff (s : State) (i : Slot) : State :=
  match s.slots[i] with
  | none => s
  | some r =>
    match r.waiters with
    | w :: rest =>
      (((s.dropClaim w).grant i { r with waiters := rest } w.port w.leaseAsked).fillGranted w rest.length).notifyHolder i
    | [] => if r.state = .retiring then (s.notifyHolder i).remove i else s.notifyHolder i

/-- R72: the LEASE-LOST notice to the former holder, with the holder as the handoff will leave it (log 25). -/
def State.leaseLost (s : State) (r : Record) : State :=
  match r.holder with
  | none => s
  | some p =>
    s.giveNotice p ({ r with holder := r.waiters.head?.map ParkedClaim.port }.notice kindLeaseLost)

/-- Steps 1 and 2 of R55: holder absent, count 0, lease removed. -/
def State.dropHold (s : State) (i : Slot) (r : Record) : State :=
  (s.removeDeadline r.lease).setSlot i (some { r with holder := none, holdCount := 0, lease := none })

/-- R55: a hold ends; `expired` for a lease expiry (R72). -/
def State.endHold (s : State) (i : Slot) (expired : Bool) : State :=
  match s.slots[i] with
  | none => s
  | some r =>
    if expired then ((s.dropHold i r).leaseLost r).handoff i else (s.dropHold i r).handoff i

/-! ### Parked claims that end without the hold (R52) -/

/-- Takes a parked claim off its list (R52, steps 1 to 3). -/
def State.withdrawClaim (s : State) (i : Slot) (w : ParkedClaim) : State :=
  match s.slots[i] with
  | none => s
  | some r => (s.dropClaim w).setSlot i (some { r with waiters := r.waiters.erase w })

/-- Ends a parked claim with a status and the hold as it then stands (R52). -/
def State.endClaim (s : State) (i : Slot) (w : ParkedClaim) (st : Status) : State :=
  (s.withdrawClaim i w).fillClaim i w st

/-- R17, R18: every parked claim of a list is answered RETIRED, oldest first, with the hold as the RETIRE leaves it
(log 21). -/
def State.answerRetired (s : State) (ws : List ParkedClaim) (b : HoldBlock) : State :=
  match ws with
  | [] => s
  | w :: rest => State.answerRetired ((s.dropClaim w).fill w.port (claimReply w.tag .retired (.hold b))) rest b

/-- The parked claim of a port on a record. -/
def Record.claimOf (r : Record) (p : PortId) : Option ParkedClaim := r.waiters.find? fun w => decide (w.port = p)

end Sys2Proof.Machine
end

