-- ==== Sys2Proof/Machine/StoreOps.lean ====
section
/-! DEFINITION. The shared operations of the Store Engine and the Nonvolatile Array (chapters 6 and 7). -/

namespace Sys2Proof.Machine

/-! ### Banks (R97, R105, R106) -/

def Banks.get (x : Banks) : BankId → Memory
  | .a => x.a
  | .b => x.b

def Banks.put (x : Banks) (which : BankId) (m : Memory) : Banks :=
  match which with
  | .a => { x with a := m }
  | .b => { x with b := m }

/-- R106: the bank that is not current, or bank A for a group with no current bank. -/
def spareOf : Option BankId → BankId
  | none => .a
  | some .a => .b
  | some .b => .a

def State.bank (s : State) (g : GroupId) (which : BankId) : Memory := s.banks[g].get which

/-- The spare bank of a group (R106). -/
def State.spareBank (s : State) (g : GroupId) : Memory := s.bank g (spareOf s.groups[g].current)

/-- Erasing and programming reach a group's spare bank only (R107). -/
def State.setSpare (s : State) (g : GroupId) (m : Memory) : State :=
  { s with banks := s.banks.set g (s.banks[g].put (spareOf s.groups[g].current) m) }

/-- R105. -/
inductive BankCondition where
  | erased
  | valid
  | invalid
  deriving DecidableEq, Repr

/-- R105: whether the commit mark reads its pattern, the check word matches and the header names the group. -/
def bankValid (g : GroupId) (m : Memory) : Bool :=
  decide (m.readBytes 297 4 = commitMark)
    && decide (m.readBytes 293 4 = bytes32 (crc32 (m.readBytes 0 293)))
    && decide (m.read 0 = byteOf g.val)

/-- R105: every location reads erased. -/
def bankErased (m : Memory) : Bool := (m.readBytes 0 Config.bankBytes).all fun x => decide (x = erasedByte)

/-- R105. -/
def judgeBank (g : GroupId) (m : Memory) : BankCondition :=
  if bankErased m then .erased else if bankValid g m then .valid else .invalid

/-- The 32-bit field at an offset, high byte first (R188). -/
def Memory.word (m : Memory) (k : Nat) : Word :=
  (m.read k ++ m.read (k + 1)) ++ (m.read (k + 2) ++ m.read (k + 3))

/-- The 16-bit field at an offset, high byte first (R188). -/
def Memory.half (m : Memory) (k : Nat) : BitVec 16 := m.read k ++ m.read (k + 1)

/-- The wear count of a bank's header (R193). -/
def bankWear (m : Memory) : Word := m.word 1

/-- R106: the current bank from the two banks' conditions and wear counts. -/
def chooseCurrent (condA condB : BankCondition) (wearA wearB : Word) : Option BankId :=
  match condA, condB with
  | .valid, .valid => if wearA < wearB then some .b else some .a
  | .valid, .erased => some .a
  | .valid, .invalid => some .a
  | .erased, .valid => some .b
  | .invalid, .valid => some .b
  | .erased, .erased => none
  | .erased, .invalid => none
  | .invalid, .erased => none
  | .invalid, .invalid => none

/-! ### What is left where an erase or a program does not end well (R105, R107, R128; log 13) -/

/-- Free bytes `start` to below `start + count`. -/
def freeBytes (draw start count : Nat) : List Byte :=
  (List.range count).map fun k => Config.freeByte draw (start + k)

/-- A bank of free bytes that is not VALID (R105): free bytes that would read as a VALID bank lose their commit mark. -/
def leftNotValid (g : GroupId) (draw : Nat) : Memory :=
  let m := Memory.writeBytes Memory.erased 0 (freeBytes draw 0 Config.bankBytes)
  if bankValid g m then m.write 300 erasedByte else m

/-- A bank of free bytes that is neither VALID nor erased (R122: a verify failure found it not erased). -/
def leftInvalid (g : GroupId) (draw : Nat) : Memory :=
  if bankErased (leftNotValid g draw) then Memory.write Memory.erased 0 0 else leftNotValid g draw

/-- A bank whose programming did not reach its commit mark (R123, R124): free bytes, and the mark erased. -/
def leftProgrammed (draw : Nat) : Memory :=
  Memory.writeBytes Memory.erased 0 (freeBytes draw 0 297)

/-- The bank with four free bytes in place of its commit mark: the mark may be complete (R107). -/
def markCutOff (m : Memory) (draw : Nat) : Memory := m.writeBytes 297 (freeBytes draw 297 4)

/-- The bank with a commit mark that does not read its pattern (R124). -/
def markFailed (m : Memory) (draw : Nat) : Memory :=
  if (markCutOff m draw).readBytes 297 4 = commitMark then (markCutOff m draw).write 300 erasedByte
  else markCutOff m draw

/-- R107, R130: the bank that a failure has left. One that would read erased after the second failure, which leaves it
INVALID, has its first byte programmed. -/
def failedBank (attempt : Attempt) (m : Memory) : Memory :=
  match attempt with
  | .first => m
  | .retry => if bankErased m then m.write 0 0 else m

/-- What a cut-off, stopped or abandoned operation leaves in a group's spare bank, by the phase it was in. In phase
CAPTURED nothing had been ordered of the array. -/
def State.cutOff (s : State) (g : GroupId) : State :=
  match s.groups[g].state with
  | .rewriting .erasing _ => { s.setSpare g (leftNotValid g s.fresh) with fresh := s.fresh + 1 }
  | .rewriting .suspended _ => { s.setSpare g (leftNotValid g s.fresh) with fresh := s.fresh + 1 }
  | .rewriting .programming _ => { s.setSpare g (leftProgrammed s.fresh) with fresh := s.fresh + 1 }
  | .rewriting .committing _ => { s.setSpare g (markCutOff (s.spareBank g) s.fresh) with fresh := s.fresh + 1 }
  | .rewriting .captured _ => s
  | .clean => s
  | .queued => s
  | .faulted => s
  | .worn => s

/-- `cutOff` of the group of a rewrite, if there is one. -/
def State.cutOffRewrite (s : State) (g : Option GroupId) : State :=
  match g with
  | none => s
  | some g => s.cutOff g

/-! ### The work of the Store Engine (R118, R120, R137) -/

/-- R120: a rewrite of the group at the head of the queue is started and its capture event raised. -/
def State.startHead (s : State) : State :=
  match s.queue with
  | [] => s
  | g :: rest =>
    State.raise { s.setGroup g { s.groups[g] with
        state := .rewriting .captured .first, capture := none, suspendCount := 0, ticks := 0 } with
      queue := rest
      active := some g } (.capture g)

/-- R137: the suspended rewrite of a group goes on ERASING as the active rewrite. -/
def State.resume (s : State) (g : GroupId) : State :=
  match s.groups[g].state with
  | .rewriting .suspended at' =>
    { s.setGroup g { s.groups[g] with state := .rewriting .erasing at' } with active := some g, suspended := none }
  | .rewriting .captured _ => s
  | .rewriting .erasing _ => s
  | .rewriting .programming _ => s
  | .rewriting .committing _ => s
  | .clean => s
  | .queued => s
  | .faulted => s
  | .worn => s

/-- R120: with no active rewrite and PFW# deasserted, the suspended rewrite is resumed or the head group started. -/
def State.startWork (s : State) : State :=
  if s.pfw then s
  else
    match s.active with
    | some _ => s
    | none =>
      match s.suspended with
      | some g => s.resume g
      | none => s.startHead

/-! ### Abandonment and failure (R127, R128, R138) -/

/-- R138: the group of an abandoned rewrite goes back to QUEUED at the head of the queue. -/
def State.requeueAbandoned (s : State) (g : GroupId) : State :=
  { s.setGroup g { s.groups[g] with
      state := .queued, capture := none, dirtyAgain := false,
      syncs := s.groups[g].syncs.map fun w => { w with captured := false } } with
    queue := g :: s.queue }

/-- R128: a second failure makes the group FAULTED. -/
def State.fault (s : State) (g : GroupId) : State :=
  (State.raise { s.setGroup g { s.groups[g] with
      state := .faulted, capture := none, dirtyAgain := false, unpersisted := true } with
    active := none } (.faulted g)).startWork

/-- R127: the retry, with the same capture and a fresh erase. -/
def State.retry (s : State) (g : GroupId) : State :=
  s.setGroup g { s.groups[g] with state := .rewriting .erasing .retry, ticks := 0 }

/-- A failure of the active rewrite of a group: a retry (R127), an abandonment where PFW# is asserted (R138), or the
group FAULTED (R128). An ordered pause has no erase left to pause (log 16). -/
def State.rewriteFails (s : State) (g : GroupId) (attempt : Attempt) : State :=
  match attempt with
  | .first =>
    if s.pfw then { s.requeueAbandoned g with active := none, pauseOrdered := false }
    else { s.retry g with pauseOrdered := false }
  | .retry => State.fault { s with pauseOrdered := false } g

/-! ### Captures and the switch (R121, R125) -/

/-- R103: a home as a capture records it; a home that names an empty slot has no record to copy. -/
def State.captureHome (s : State) (h : Home) : CapturedHome :=
  match h with
  | .free => .free
  | .vacated _ => .vacated
  | .occupied i =>
    match s.slots[i] with
    | none => .free
    | some r => .occupied ⟨r.key, r.value, r.floor, r.ceiling, r.guard, r.generation⟩

/-- R121: the 16 homes of a group as they stand. -/
def State.captureGroup (s : State) (g : GroupId) : Vector CapturedHome 16 := vmap s.captureHome s.homeMap[g]

/-- The homes a capture recorded as VACATED (R100). -/
def notedVacated (capture : Vector CapturedHome 16) : List (Fin 16) :=
  (List.finRange 16).filter fun h => decide (capture[h] = .vacated)

/-- R108. -/
def isWorn (wear : Word) : Bool := decide (Config.wornAt ≤ wear.toNat)

/-- R125, steps 1 to 3: the group record after the switch. -/
def switchedGroup (x : Group) : Group :=
  let wear := x.wear + 1
  { x with
    current := some (spareOf x.current)
    wear := wear
    capture := none
    dirtyAgain := false
    unpersisted := if isWorn wear ∧ x.dirtyAgain then true else x.unpersisted
    state := if isWorn wear then .worn else if x.dirtyAgain then .queued else .clean }

/-- R125, step 3: where the group stands in the queue after the switch. -/
def switchedQueue (x : Group) (g : GroupId) (queue : List GroupId) : List GroupId :=
  if (switchedGroup x).state = .queued then
    if x.syncs.any fun w => !w.captured then g :: queue else queue ++ [g]
  else queue

/-- R125: the switch of the active rewrite of a group. -/
def State.switch (s : State) (g : GroupId) (capture : Vector CapturedHome 16) : State :=
  (State.raise { s.setGroup g (switchedGroup s.groups[g]) with
    active := none
    queue := switchedQueue s.groups[g] g s.queue } (.committed g (notedVacated capture))).startWork

/-! ### Parked SYNCs (R126, R129, R133 to R136) -/

/-- R133: the home that the reply to a parked SYNC carries; free where its record has gone (log 14). A parked SYNC holds
a key (R134): where a new record has taken the key in the same group since, the home is the new record's (log 37). -/
def State.syncHome (s : State) (g : GroupId) (key : Key) : Option HomeId :=
  match s.lookup key with
  | none => Config.freeHome s.fresh
  | some (_, r) => if r.home.map HomeId.group = some g then r.home else Config.freeHome s.fresh

/-- The SYNC payload of a group (R133). -/
def State.syncPayload (s : State) (g : GroupId) (h : Option HomeId) : Payload :=
  .sync h s.groups[g].state s.groups[g].wear

/-- Ends a parked SYNC that has left its list: its port's parked count falls and its reply is filled (R135). -/
def State.fillSync (s : State) (g : GroupId) (w : ParkedSync) (st : Status) : State :=
  let r : Reply := ⟨w.tag, syncCode, st, noFlags, none, s.syncPayload g (s.syncHome g w.key)⟩
  { (s.unpark w.port).fill w.port r with fresh := s.fresh + 1 }

/-- Ends parked SYNCs one after another (R126, R129). -/
def State.fillSyncs (s : State) (g : GroupId) (ws : List ParkedSync) (st : Status) : State :=
  match ws with
  | [] => s
  | w :: rest => State.fillSyncs (s.fillSync g w st) g rest st

/-- R126, R129: answers the SYNCs of a group's list that `which` picks, oldest first. -/
def State.answerSyncs (s : State) (g : GroupId) (which : ParkedSync → Bool) (st : Status) : State :=
  (s.setGroup g { s.groups[g] with syncs := s.groups[g].syncs.filter fun w => !which w }).fillSyncs g
    (s.groups[g].syncs.filter which) st

/-- R136: whether the active rewrite is to be suspended for a promotion. -/
def State.suspends (s : State) : Bool :=
  match s.active with
  | none => false
  | some g =>
    match s.groups[g].state with
    | .rewriting .erasing _ =>
      !(s.groups[g].syncs.any ParkedSync.captured) && s.suspended.isNone
        && decide (s.groups[g].suspendCount < Config.suspendLimit)
    | .rewriting .captured _ => false
    | .rewriting .suspended _ => false
    | .rewriting .programming _ => false
    | .rewriting .committing _ => false
    | .clean => false
    | .queued => false
    | .faulted => false
    | .worn => false

/-- R134, R136: a QUEUED group goes to the head of the queue, and the active erase may be ordered to pause. -/
def State.promote (s : State) (g : GroupId) : State :=
  { s with queue := g :: s.queue.erase g, pauseOrdered := s.pauseOrdered || s.suspends }

/-! ### Settling homes at a commit (R100) -/

/-- R100: a home that the capture noted VACATED becomes FREE if it is VACATED now. -/
def settleHome (h : Home) : Home :=
  match h with
  | .vacated _ => .free
  | .free => .free
  | .occupied i => .occupied i

/-- R100: the homes that a capture noted VACATED, one after another. -/
def settleRow (row : Vector Home 16) (noted : List (Fin 16)) : Vector Home 16 :=
  match noted with
  | [] => row
  | h :: rest => settleRow (row.set h (settleHome row[h])) rest

/-- R100: the homes of a group after a commit whose capture noted `noted` VACATED. -/
def State.settleHomes (s : State) (g : GroupId) (noted : List (Fin 16)) : State :=
  { s with homeMap := s.homeMap.set g (settleRow s.homeMap[g] noted) }

end Sys2Proof.Machine
end

