-- ==== Sys2Proof/Machine/Device.lean ====
section
/-! DEFINITION. The commands of the device and its pins: DEVICE_RESET, RESTORE, RESTORE_END, PRST_ASSERTED,
PRST_DEASSERTED, PFW_ASSERTED, PFW_DEASSERTED, LOSS_OF_POWER. -/

namespace Sys2Proof.Machine

/-! ### Device reset and loss of power (R1, R78, R95, R107, R140, R155, R176) -/

/-- What the active and the suspended rewrite leave in their spare banks when they are cut off (R107, R140). -/
def State.cutOffRewrites (s : State) : State := (s.cutOffRewrite s.active).cutOffRewrite s.suspended

/-- Everything but the banks, the pin levels, the straps as last sampled and the model's own fields is cleared. -/
def State.cleared (s : State) (phase : RunState) : State :=
  { State.reset with
    pending := s.pending
    phase := phase
    ports := #v[blankPort s.ports[0].prst s.ports[0].privilege, blankPort s.ports[1].prst s.ports[1].privilege,
      blankPort s.ports[2].prst s.ports[2].privilege, blankPort s.ports[3].prst s.ports[3].privilege]
    banks := s.banks
    pfw := s.pfw
    fresh := s.fresh }

/-- DEVICE_RESET, R1. -/
def execDeviceReset (s : State) : Host.Outcome State Fault Refusal :=
  .next (s.cutOffRewrites.cleared .reset)

/-- LOSS_OF_POWER, R140: as a reset, but the part stays unpowered until DEVICE_RESET (log 28). -/
def execLossOfPower (s : State) : Host.Outcome State Fault Refusal :=
  .next (s.cutOffRewrites.cleared .off)

/-! ### Restore (R105, R106, R109 to R112) -/

/-- R193: the bytes of home image `h` begin here. -/
def imageOffset (h : Fin 16) : Nat := 5 + 18 * h.val

/-- R193: any flag other than 00h is occupied. -/
def imageOccupied (m : Memory) (h : Fin 16) : Bool := decide (m.read (imageOffset h) ≠ 0)

/-- The key of a home image as read (R112, R193). -/
def imageKey (m : Memory) (h : Fin 16) : Key := m.half (imageOffset h + 1)

/-- The record of a home image (R111), unless the image is defective (R112). -/
def imageRecord (m : Memory) (g : GroupId) (h : Fin 16) : Option Record :=
  match Guard.ofByte? (m.read (imageOffset h + 15)) with
  | none => none
  | some guard =>
    let r : Record := {
      key := imageKey m h
      state := .live
      home := some ⟨g, h⟩
      guard := guard
      value := m.word (imageOffset h + 3)
      floor := m.word (imageOffset h + 7)
      ceiling := m.word (imageOffset h + 11)
      generation := m.half (imageOffset h + 16)
      holder := none
      holdCount := 0
      lease := none
      waiters := []
      watchers := Vector.replicate 4 none }
    if isRecordKey r.key ∧ r.floor.toInt ≤ r.ceiling.toInt ∧ inBounds r r.value.toInt then some r else none

/-- Adds a record in a slot, its index entry and, if it is durable, its occupied home (R12, R111). -/
def State.install (s : State) (i : Slot) (r : Record) : State :=
  let s := { s.setSlot i (some r) with index := insertIndex ⟨r.key, i⟩ s.index }
  match r.home with
  | none => s
  | some h => s.setHome h (.occupied i)

/-- R111, R112: one home image of a current bank. -/
def State.restoreHome (s : State) (m : Memory) (g : GroupId) (h : Fin 16) : State :=
  if imageOccupied m h then
    match imageRecord m g h, s.lookup (imageKey m h), s.freeSlot with
    | some r, none, some i => s.install i r
    | _, _, _ => s.setHome ⟨g, h⟩ (.vacated (imageKey m h))
  else s

/-- R110: a group record from the conditions of its banks. -/
def restoredGroup (g : GroupId) (x : Banks) : Group :=
  let current := chooseCurrent (judgeBank g x.a) (judgeBank g x.b) (bankWear x.a) (bankWear x.b)
  let wear := match current with
    | none => 0
    | some which => bankWear (x.get which)
  { blankGroup with
    state := if isWorn wear then .worn else .clean
    current := current
    wear := wear
    restoreLost := current.isNone && !(bankErased x.a && bankErased x.b) }

/-- R111: home images of a current bank, one after another. -/
def State.restoreHomes (s : State) (m : Memory) (g : GroupId) (hs : List (Fin 16)) : State :=
  match hs with
  | [] => s
  | h :: rest => State.restoreHomes (s.restoreHome m g h) m g rest

/-- R109: one group of a restore. -/
def State.restoreGroup (s : State) (g : GroupId) : State :=
  let x := restoredGroup g s.banks[g]
  match x.current with
  | none => s.setGroup g x
  | some which => (s.setGroup g x).restoreHomes (s.bank g which) g (List.finRange 16)

/-- R109: groups of a restore, one after another. -/
def State.restoreGroups (s : State) (gs : List GroupId) : State :=
  match gs with
  | [] => s
  | g :: rest => State.restoreGroups (s.restoreGroup g) rest

/-- R172: the privileges that the straps give. -/
def State.sampleStraps (s : State) (psv0 psv1 psv2 psv3 : Privilege) : State :=
  { s with ports := #v[{ s.ports[0] with privilege := psv0 }, { s.ports[1] with privilege := psv1 },
      { s.ports[2] with privilege := psv2 }, { s.ports[3] with privilege := psv3 }] }

/-- The restore begins; whether PFW# is asserted is remembered for its end (R114). -/
def State.beginRestore (s : State) : State := { s with phase := .restoring, pfwSeen := s.pfw }

/-- RESTORE, R109: the straps are sampled (R172) and the groups are restored in order 0 to 15. -/
def execRestore (psv0 psv1 psv2 psv3 : Privilege) (s : State) : Host.Outcome State Fault Refusal :=
  if s.phase = .reset then
    .next ((s.beginRestore.sampleStraps psv0 psv1 psv2 psv3).restoreGroups (List.finRange 16))
  else .next s

def kindStoreFault : DeviceKinds := ⟨true, false, false, false⟩
def kindStoreWorn : DeviceKinds := ⟨false, true, false, false⟩
def kindPowerWarn : DeviceKinds := ⟨false, false, true, false⟩
def kindRestoreLost : DeviceKinds := ⟨false, false, false, true⟩

/-- R113: the RESTORE-LOST device notice of a group, if its flag is set. -/
def State.restoreLostNotice (s : State) (g : GroupId) : State :=
  if s.groups[g].restoreLost then s.deviceNotice kindRestoreLost (some g) else s

/-- R113: the RESTORE-LOST device notices of groups, in the order of the list. -/
def State.restoreLostNotices (s : State) (gs : List GroupId) : State :=
  match gs with
  | [] => s
  | g :: rest => State.restoreLostNotices (s.restoreLostNotice g) rest

/-- R114: the POWER-WARN notice of a PFW# seen during the restore (log 27). -/
def State.powerWarnSeen (s : State) : State := if s.pfwSeen then s.deviceNotice kindPowerWarn none else s

/-- RESTORE_END, R113: the Table Engine starts, with a waiting eviction event as its first client (R155). The notices
are handed on before a waiting eviction event is taken, the one of the two orders of R114 that the model shows
(log 34). -/
def execRestoreEnd (s : State) : Host.Outcome State Fault Refusal :=
  if s.phase = .restoring then
    .next (State.engaged
      { (s.restoreLostNotices (List.finRange 16)).powerWarnSeen with phase := .running, pfwSeen := false })
  else .next s

/-! ### Port reset (R173 to R176) -/

/-- R173: the port at the assertion of its PRST#; its parked count and watch count stand until the eviction. -/
def prstPort (q : Port) : Port :=
  { blankPort true q.privilege with parked := q.parked, watchCount := q.watchCount }

/-- R142, R173: an eviction event is raised unless one for the port is waiting. None is raised while the Table Engine
is itself held in reset or unpowered (log 10). -/
def State.raiseEviction (s : State) (p : PortId) : State :=
  if s.phase = .running ∨ s.phase = .restoring then
    if .eviction p ∈ s.events then s else s.raise (.eviction p)
  else s

/-- PRST_ASSERTED, R173. The item in progress goes on, also one of the port's own (R149, R155). Further activity while it
stays asserted changes nothing. -/
def execPrstAsserted (p : PortId) (s : State) : Host.Outcome State Fault Refusal :=
  if s.ports[p].prst then .next s
  else .next ((s.modifyPort p prstPort).raiseEviction p)

/-- PRST_DEASSERTED, R175. -/
def execPrstDeasserted (p : PortId) (s : State) : Host.Outcome State Fault Refusal :=
  .next (s.modifyPort p fun q => { q with prst := false })

/-! ### Power-fail warning (R138, R139) -/

/-- R138: what PFW# does to the suspended rewrite. -/
def State.abandonSuspended (s : State) : State :=
  match s.suspended with
  | none => s
  | some g => { (s.cutOff g).requeueAbandoned g with suspended := none }

/-- R138: what PFW# does to an active rewrite in phase CAPTURED or ERASING; one that is programming runs on. -/
def State.abandonActive (s : State) : State :=
  match s.active with
  | none => s
  | some g =>
    match s.groups[g].state with
    | .rewriting .captured _ => { s.requeueAbandoned g with active := none }
    | .rewriting .erasing _ => { (s.cutOff g).requeueAbandoned g with active := none, pauseOrdered := false }
    | .rewriting .suspended _ => s
    | .rewriting .programming _ => s
    | .rewriting .committing _ => s
    | .clean => s
    | .queued => s
    | .faulted => s
    | .worn => s

/-- PFW_ASSERTED, R138; during a restore it is remembered for the end (R114). -/
def execPfwAsserted (s : State) : Host.Outcome State Fault Refusal :=
  if s.pfw then .next s
  else
    match s.phase with
    | .running =>
      .next ((State.abandonActive (State.abandonSuspended { s with pfw := true })).deviceNotice kindPowerWarn none)
    | .restoring => .next { s with pfw := true, pfwSeen := true }
    | .reset => .next { s with pfw := true }
    | .off => .next { s with pfw := true }

/-- PFW_DEASSERTED, R139: the Store Engine may start work, which is the row REWRITE_START (log 15). -/
def execPfwDeasserted (s : State) : Host.Outcome State Fault Refusal :=
  .next { s with pfw := false }

end Sys2Proof.Machine
end

