-- ==== Sys2Proof/Machine/Records.lean ====
section
/-! DEFINITION. The record requests (chapter 1): CREATE, FIND, NEXT, RETIRE, SET-GUARD; and BAD-REQUEST (R151). -/

namespace Sys2Proof.Machine

def RecState.reported : RecState → ReportedState
  | .live => .live
  | .retiring => .retiring

/-! ### CREATE (R9 to R12) -/

/-- The operands of CREATE, R190. -/
structure CreateOperands where
  durable : Byte
  guard : Byte
  floor : Word
  ceiling : Word
  value : Word
  deriving DecidableEq, Repr

def createOperands (f : RequestFrame) : CreateOperands :=
  ⟨f.byteAt 0, f.byteAt 1, f.word 2, f.word 6, f.word 10⟩

/-- R9, R21, R190: a guard byte that only a SUPERVISOR port may name. -/
def privilegedGuard (x : Byte) : Bool := decide (x = 2) || decide (x = 3)

/-- R10, check 4, but for the guard's code. -/
def createBoundsGood (c : CreateOperands) : Bool :=
  (decide (c.durable = 0) || decide (c.durable = 1)) && decide (c.floor.toInt ≤ c.ceiling.toInt)
    && decide (c.floor.toInt ≤ c.value.toInt) && decide (c.value.toInt ≤ c.ceiling.toInt)

/-- R11, first step: the lowest-numbered VACATED home of the key. -/
def State.vacatedHomeOf (s : State) (k : Key) : Option HomeId :=
  allHomes.find? fun h => decide (s.home h = .vacated k)

/-- R11, second step: the lowest-numbered FREE home of a group that is neither FAULTED nor WORN. -/
def State.freeHome (s : State) : Option HomeId :=
  allHomes.find? fun h =>
    decide (s.home h = .free) && decide (s.groups[h.group].state ≠ .faulted)
      && decide (s.groups[h.group].state ≠ .worn)

/-- R11. -/
def State.chooseHome (s : State) (k : Key) : Option HomeId :=
  match s.vacatedHomeOf k with
  | some h => some h
  | none => s.freeHome

/-- R12: the record of a CREATE. -/
def createdRecord (k : Key) (guard : Guard) (c : CreateOperands) (h : Option HomeId) : Record where
  key := k
  state := .live
  home := h
  guard := guard
  value := c.value
  floor := c.floor
  ceiling := c.ceiling
  generation := 0
  holder := none
  holdCount := 0
  lease := none
  waiters := []
  watchers := Vector.replicate 4 none

/-- R12. -/
def createIn (p : PortId) (f : RequestFrame) (s : State) (i : Slot) (guard : Guard) (h : Option HomeId) : State :=
  let r := createdRecord f.key guard (createOperands f) h
  ((s.install i r).dirtyMarkOf r).answer p f ⟨.ok, noFlags, some 0, .home h⟩

/-- R10: the checks of CREATE in order. -/
def serveCreate (p : PortId) (f : RequestFrame) (s : State) : State :=
  let c := createOperands f
  if privilegedGuard c.guard ∧ !s.supervisor p then s.answer p f (plain .privilege)
  else if !isRecordKey f.key then s.answer p f (plain .badOperand)
  else
    match s.lookup f.key with
    | some (_, r) => s.answer p f (answerWith .keyExists (.recState r.state.reported))
    | none =>
      match Guard.ofByte? c.guard with
      | none => s.answer p f (plain .badOperand)
      | some guard =>
        if !createBoundsGood c then s.answer p f (plain .badOperand)
        else
          match s.freeSlot with
          | none => s.answer p f (plain .tableFull)
          | some i =>
            if c.durable = 1 then
              match s.chooseHome f.key with
              | none => s.answer p f (plain .storeFull)
              | some h => createIn p f s i guard (some h)
            else createIn p f s i guard none

/-- CREATE, R10. -/
def execCreate (p : PortId) (s : State) : Host.Outcome State Fault Refusal :=
  .next (serve 0x10 p s (serveCreate p))

/-! ### FIND and NEXT (R13 to R15) -/

/-- R13. -/
def State.snapshot (s : State) (r : Record) : Snapshot where
  key := r.key
  state := r.state.reported
  home := r.home
  guard := r.guard
  value := r.value
  floor := r.floor
  ceiling := r.ceiling
  hold := s.holdBlock r
  waiters := r.waiters.map ParkedClaim.port
  watchers := r.watchers

/-- The reply with a record's snapshot (R13, R191). -/
def State.snapshotAnswer (s : State) (r : Record) : Answer :=
  ⟨.ok, noFlags, some r.generation, .snapshot (s.snapshot r)⟩

/-- R14. -/
def serveFind (p : PortId) (f : RequestFrame) (s : State) : State :=
  withRecord p f s fun _ r => s.answer p f (s.snapshotAnswer r)

/-- FIND, R14. -/
def execFind (p : PortId) (s : State) : Host.Outcome State Fault Refusal :=
  .next (serve 0x11 p s (serveFind p))

/-- R15: the record with the smallest key above the given one, the index being in key order. -/
def State.recordAbove (s : State) (k : Key) : Option Record :=
  match s.index.find? (fun e => decide (k < e.key)) with
  | none => none
  | some e => s.slots[e.slot]

/-- R15. -/
def serveNext (p : PortId) (f : RequestFrame) (s : State) : State :=
  if f.key = 0xFFFF then s.answer p f (plain .badOperand)
  else
    match s.recordAbove f.key with
    | none => s.answer p f (plain .done)
    | some r => s.answer p f (s.snapshotAnswer r)

/-- NEXT, R15. -/
def execNext (p : PortId) (s : State) : Host.Outcome State Fault Refusal :=
  .next (serve 0x12 p s (serveNext p))

/-! ### RETIRE (R16 to R18) -/

/-- R17: the record goes at once. -/
def retireNow (p : PortId) (f : RequestFrame) (s : State) (i : Slot) (r : Record) : State :=
  let s := (s.removeDeadline r.lease).setSlot i
    (some { r with holder := none, holdCount := 0, lease := none, waiters := [] })
  ((s.answerRetired r.waiters ⟨none, 0, none, 0⟩).remove i).answer p f (answerWith .ok (.recState .free))

/-- R18: the record enters RETIRING. -/
def retireLater (p : PortId) (f : RequestFrame) (s : State) (i : Slot) (r : Record) : State :=
  let r' := { r with state := .retiring, waiters := [] }
  let s := (s.setSlot i (some r')).answerRetired r.waiters (s.holdBlock r')
  (s.notifyWatchers r.watchers (fun w => w.life) (r'.notice kindRetiring)).answer p f
    (answerWith .ok (.recState .retiring))

/-- R16. -/
def serveRetire (p : PortId) (f : RequestFrame) (s : State) : State :=
  withLiveRecord p f s fun i r =>
    match guardRefusal r p (s.supervisor p) with
    | some st => s.answer p f (answerWith st (.holder r.holder))
    | none =>
      if r.holder = none ∨ r.holder = some p then retireNow p f s i r else retireLater p f s i r

/-- RETIRE, R16. -/
def execRetire (p : PortId) (s : State) : Host.Outcome State Fault Refusal :=
  .next (serve 0x13 p s (serveRetire p))

/-! ### SET-GUARD (R21, R22) -/

/-- R21: the permission of a port over a record's guard. -/
def setGuardRefusal (r : Record) (p : PortId) (supervisor : Bool) : Option Status :=
  if supervisor then none
  else
    match r.guard with
    | .supervisor => some .guarded
    | .fixed => some .guarded
    | .isOpen => if r.holder = some p ∨ r.holder = none then none else some .notHolder
    | .holder => if r.holder = some p then none else some .notHolder

/-- R22: a change of guard. -/
def State.changeGuard (s : State) (i : Slot) (r : Record) (g : Guard) : State :=
  if g = r.guard then s
  else
    let r' := { r with guard := g, generation := r.generation + 1 }
    ((s.setSlot i (some r')).notifyWatchers r.watchers (fun w => w.value) (r'.notice kindValue)).dirtyMarkOf r

/-- The generation after a SET-GUARD (R22). -/
def guardGeneration (r : Record) (g : Guard) : Gen := if g = r.guard then r.generation else r.generation + 1

/-- R21, R22. -/
def serveSetGuard (p : PortId) (f : RequestFrame) (s : State) : State :=
  if privilegedGuard (f.byteAt 0) ∧ !s.supervisor p then s.answer p f (plain .privilege)
  else
    withLiveRecord p f s fun i r =>
      match setGuardRefusal r p (s.supervisor p) with
      | some st => s.answer p f (answerWith st (.holder r.holder))
      | none =>
        match Guard.ofByte? (f.byteAt 0) with
        | none => s.answer p f (plain .badOperand)
        | some g => (s.changeGuard i r g).answer p f ⟨.ok, noFlags, some (guardGeneration r g), .guard g⟩

/-- SET_GUARD, R21. -/
def execSetGuard (p : PortId) (s : State) : Host.Outcome State Fault Refusal :=
  .next (serve 0x14 p s (serveSetGuard p))

/-! ### BAD-REQUEST (R151) -/

/-- BAD_REQUEST, R151: the request in progress has an unknown code or a wrong operand length. -/
def execBadRequest (p : PortId) (s : State) : Host.Outcome State Fault Refusal :=
  match s.request p with
  | none => .next s
  | some f => if f.sound then .next s else .next (s.answer p f (plain .badRequest)).finish

end Sys2Proof.Machine
end

