-- ==== Sys2Proof/Machine/Values.lean ====
section
/-! DEFINITION. The value updates (chapter 2): SET, SET-IF, ADD, TAKE, GIVE, BITSET, BITCLR. -/

namespace Sys2Proof.Machine

/-- R25, R26: a changed update replaces the value, advances the generation, notifies VALUE watchers and dirties the
group; an unchanged one does nothing. -/
def State.leaveValue (s : State) (i : Slot) (r : Record) (v : Word) : State :=
  if v = r.value then s
  else
    let r' := { r with value := v, generation := r.generation + 1 }
    ((s.setSlot i (some r')).notifyWatchers r.watchers (fun w => w.value) (r'.notice kindValue)).dirtyMarkOf r

/-- The generation after an update (R25). -/
def updateGeneration (r : Record) (v : Word) : Gen := if v = r.value then r.generation else r.generation + 1

/-- R27, R28: the reply of an update that passed its guard and operand checks. -/
def updateAnswer (r : Record) (u : UpdateResult) : Answer :=
  match u with
  | .refused st prior => ⟨st, flagsFor r.value false prior, some r.generation, .value r.value⟩
  | .leaves v limit prior => ⟨.ok, flagsFor v limit prior, some (updateGeneration r v), .value v⟩

/-- R25: what an update does to the record. -/
def State.applyUpdate (s : State) (i : Slot) (r : Record) (u : UpdateResult) : State :=
  match u with
  | .refused _ _ => s
  | .leaves v _ _ => s.leaveValue i r v

/-- R23: the checks of a value update in order; `inRange` is the operand check of TAKE and GIVE. -/
def serveUpdate (p : PortId) (f : RequestFrame) (inRange : Bool) (result : Record → UpdateResult) (s : State) : State :=
  withLiveRecord p f s fun i r =>
    match guardRefusal r p (s.supervisor p) with
    | some st => s.answer p f (answerWith st (.holder r.holder))
    | none =>
      if inRange then (s.applyUpdate i r (result r)).answer p f (updateAnswer r (result r))
      else s.answer p f (plain .badOperand)

/-- SET, R32. -/
def execSet (p : PortId) (s : State) : Host.Outcome State Fault Refusal :=
  .next (serve 0x20 p s fun f => serveUpdate p f true (setResult (f.word 0)))

/-- SET_IF, R33. -/
def execSetIf (p : PortId) (s : State) : Host.Outcome State Fault Refusal :=
  .next (serve 0x21 p s fun f => serveUpdate p f true (setIfResult (f.word 0) (f.half 4)))

/-- ADD, R34. -/
def execAdd (p : PortId) (s : State) : Host.Outcome State Fault Refusal :=
  .next (serve 0x22 p s fun f => serveUpdate p f true (addResult (f.word 0)))

/-- TAKE, R35. -/
def execTake (p : PortId) (s : State) : Host.Outcome State Fault Refusal :=
  .next (serve 0x23 p s fun f => serveUpdate p f (countInRange (f.word 0)) (takeResult (f.word 0)))

/-- GIVE, R36. -/
def execGive (p : PortId) (s : State) : Host.Outcome State Fault Refusal :=
  .next (serve 0x24 p s fun f => serveUpdate p f (countInRange (f.word 0)) (giveResult (f.word 0)))

/-- BITSET, R37. -/
def execBitset (p : PortId) (s : State) : Host.Outcome State Fault Refusal :=
  .next (serve 0x25 p s fun f => serveUpdate p f true (bitsetResult (f.word 0)))

/-- BITCLR, R38. -/
def execBitclr (p : PortId) (s : State) : Host.Outcome State Fault Refusal :=
  .next (serve 0x26 p s fun f => serveUpdate p f true (bitclrResult (f.word 0)))

end Sys2Proof.Machine
end

