-- ==== Sys2Proof/Machine/Holds.lean ====
section
/-! DEFINITION. The hold requests (chapters 3 and 4): CLAIM, RELEASE, RENEW, CANCEL-WAIT. -/

namespace Sys2Proof.Machine

/-- A CLAIM's own reply with the hold of the slot as it stands (R51). -/
def State.answerHold (s : State) (p : PortId) (f : RequestFrame) (i : Slot) (st : Status) : State :=
  match s.slots[i] with
  | none => s.answer p f (plain st)
  | some r => s.answer p f (answerWith st (.hold (s.holdBlock r)))

/-! ### CLAIM (R45 to R50) -/

/-- The mode of a CLAIM, R45. -/
inductive ClaimMode where
  | noWait
  | wait (limit : Ticks)
  | waitUnlimited
  deriving DecidableEq, Repr

/-- R45, R190: the mode byte, and the wait limit, which is read in mode WAIT only and is not 0 there. -/
def claimMode (f : RequestFrame) : Option ClaimMode :=
  if f.byteAt 0 = 0 then some .noWait
  else if f.byteAt 0 = 1 then (if f.half 1 = 0 then none else some (.wait (f.half 1)))
  else if f.byteAt 0 = 2 then some .waitUnlimited
  else none

/-- The lease a CLAIM asks, R190. -/
def claimLease (f : RequestFrame) : Ticks := f.half 3

/-- R51, R71: the reply to a CLAIM that is granted and to a RENEW that is served, with the lease remaining `lease`. -/
def State.answerHeld (s : State) (p : PortId) (f : RequestFrame) (st : Status) (count : Nat) (lease : Option Ticks)
    (parked : Nat) : State :=
  s.answer p f (answerWith st (.hold ⟨some p, count, lease, parked⟩))

/-- R47: replaces the hold's lease by a new one of `len` ticks. -/
def State.setLease (s : State) (i : Slot) (r : Record) (len : Ticks) : State :=
  let s := s.removeDeadline r.lease
  match r.holder with
  | none => s.setSlot i (some { r with lease := none })
  | some p =>
    if len = 0 then s.setSlot i (some { r with lease := none })
    else (s.addDeadline .lease r.key p len).setSlot i (some { r with lease := some s.nextSerial })

/-- R47: a further claim of the same hold; lease 0 leaves the lease as it is. -/
def State.raiseHold (s : State) (i : Slot) (r : Record) (len : Ticks) : State :=
  let r' := { r with holdCount := r.holdCount + 1 }
  if len = 0 then s.setSlot i (some r') else s.setLease i r' len

/-- R47: the lease remaining after a further claim. -/
def State.raisedLease (s : State) (r : Record) (len : Ticks) : Option Ticks :=
  if len = 0 then s.leaseRemaining r else newLease len

/-- R50: the wait of a claim that parks. -/
def State.parkWait (s : State) (mode : ClaimMode) : Wait :=
  match mode with
  | .noWait => .unlimited
  | .waitUnlimited => .unlimited
  | .wait limit => .limited limit s.nextSerial

/-- R50: the WAIT deadline of a claim that parks. -/
def State.addWait (s : State) (p : PortId) (key : Key) (mode : ClaimMode) : State :=
  match mode with
  | .noWait => s
  | .waitUnlimited => s
  | .wait limit => s.addDeadline .wait key p limit

/-- R50: the claim joins the tail of the waiter list. -/
def State.parkClaim (s : State) (p : PortId) (f : RequestFrame) (i : Slot) (r : Record) (mode : ClaimMode) : State :=
  ((s.addWait p r.key mode).setSlot i
    (some { r with waiters := r.waiters ++ [⟨p, f.tag, r.key, claimLease f, s.parkWait mode⟩] })).park p

/-- R48 to R50: a CLAIM of a record that another port holds. -/
def claimHeld (p : PortId) (f : RequestFrame) (s : State) (i : Slot) (r : Record) (mode : ClaimMode) : State :=
  if mode = .noWait then s.answerHold p f i .busy
  else if (r.claimOf p).isSome then s.answerHold p f i .alreadyWaiting
  else if Config.parkLimit ≤ s.ports[p].parked then s.answerHold p f i .parkLimit
  else s.parkClaim p f i r mode

/-- R45: the hold decides. -/
def serveClaim (p : PortId) (f : RequestFrame) (s : State) : State :=
  withLiveRecord p f s fun i r =>
    match claimMode f with
    | none => s.answer p f (plain .badOperand)
    | some mode =>
      if r.holder = none then
        ((s.grant i r p (claimLease f)).notifyHolder i).answerHeld p f .granted 1 (newLease (claimLease f))
          r.waiters.length
      else if r.holder = some p then
        if Config.holdLimit ≤ r.holdCount then s.answerHold p f i .holdLimit
        else (s.raiseHold i r (claimLease f)).answerHeld p f .granted (r.holdCount + 1) (s.raisedLease r (claimLease f))
          r.waiters.length
      else claimHeld p f s i r mode

/-- CLAIM, R45. -/
def execClaim (p : PortId) (s : State) : Host.Outcome State Fault Refusal :=
  .next (serve 0x30 p s (serveClaim p))

/-! ### RELEASE (R53, R54) -/

/-- The holder of a slot's record, absent where the record has gone. -/
def State.holderOf (s : State) (i : Slot) : Option PortId := s.slots[i].bind Record.holder

/-- R54: the count after a RELEASE; option 01h is ALL. -/
def countAfter (option : Byte) (count : Nat) : Nat := if option = 1 then 0 else count - 1

/-- R54. The reply carries the holder and the hold count, as R54, R152 and R191 lay it out, and not the number of parked
claims that R62 speaks of (log 32). -/
def releaseHold (p : PortId) (f : RequestFrame) (s : State) (i : Slot) (r : Record) : State :=
  let n := countAfter (f.byteAt 0) r.holdCount
  if n = 0 then
    let s := s.endHold i false
    s.answer p f (answerWith .ok (.holderCount (s.holderOf i) 0))
  else
    (s.setSlot i (some { r with holdCount := n })).answer p f (answerWith .ok (.holderCount r.holder n))

/-- R53. -/
def serveRelease (p : PortId) (f : RequestFrame) (s : State) : State :=
  withRecord p f s fun i r =>
    if f.byteAt 0 = 0 ∨ f.byteAt 0 = 1 then
      if r.holder = some p then releaseHold p f s i r
      else s.answer p f (answerWith .notHolder (.holderCount r.holder r.holdCount))
    else s.answer p f (plain .badOperand)

/-- RELEASE, R53. -/
def execRelease (p : PortId) (s : State) : Host.Outcome State Fault Refusal :=
  .next (serve 0x31 p s (serveRelease p))

/-! ### RENEW (R70, R71) -/

/-- R70, R71. -/
def serveRenew (p : PortId) (f : RequestFrame) (s : State) : State :=
  withRecord p f s fun i r =>
    if r.holder = some p then
      (s.setLease i r (f.half 0)).answerHeld p f .ok r.holdCount (newLease (f.half 0)) r.waiters.length
    else s.answer p f (answerWith .notHolder (.holderCount r.holder r.holdCount))

/-- RENEW, R70. -/
def execRenew (p : PortId) (s : State) : Host.Outcome State Fault Refusal :=
  .next (serve 0x32 p s (serveRenew p))

/-! ### CANCEL-WAIT (R58) -/

/-- R58. -/
def serveCancelWait (p : PortId) (f : RequestFrame) (s : State) : State :=
  withRecord p f s fun i r =>
    match r.claimOf p with
    | none => s.answer p f (answerWith .notWaiting (.holderWaiters r.holder r.waiters.length))
    | some w =>
      (s.endClaim i w .cancelled).answer p f
        (answerWith .ok (.holderWaiters r.holder (r.waiters.erase w).length))

/-- CANCEL_WAIT, R58. -/
def execCancelWait (p : PortId) (s : State) : Host.Outcome State Fault Refusal :=
  .next (serve 0x33 p s (serveCancelWait p))

end Sys2Proof.Machine
end

