-- ==== Sys2Proof/Machine/Watches.lean ====
section
/-! DEFINITION. The notice requests (chapter 5): WATCH, UNWATCH, GATE. -/

namespace Sys2Proof.Machine

/-- R80: sets a port's interest; `fresh` where it did not watch the record yet. -/
def State.setWatch (s : State) (p : PortId) (i : Slot) (r : Record) (interest : Interest) (fresh : Bool) : State :=
  (s.setSlot i (some { r with watchers := r.watchers.set p (some interest) })).modifyPort p fun q =>
    if fresh then { q with watchCount := q.watchCount + 1 } else q

/-- The reply of a WATCH that is served (R80). -/
def State.watchAnswer (s : State) (p : PortId) (r : Record) (interest : Interest) : Answer :=
  ⟨.ok, noFlags, some r.generation, .watch interest r.value r.holder s.ports[p].watchCount⟩

/-- R80. -/
def serveWatch (p : PortId) (f : RequestFrame) (s : State) : State :=
  withLiveRecord p f s fun i r =>
    match Interest.ofByte? (f.byteAt 0) with
    | none => s.answer p f (plain .badOperand)
    | some interest =>
      if r.watchers[p].isSome then
        let s := s.setWatch p i r interest false
        s.answer p f (s.watchAnswer p r interest)
      else if s.ports[p].watchCount < Config.watchBudget then
        let s := s.setWatch p i r interest true
        s.answer p f (s.watchAnswer p r interest)
      else s.answer p f (answerWith .watchLimit (.watchCount s.ports[p].watchCount))

/-- WATCH, R80. -/
def execWatch (p : PortId) (s : State) : Host.Outcome State Fault Refusal :=
  .next (serve 0x40 p s (serveWatch p))

/-- R81: removes a port's watch. -/
def State.clearWatch (s : State) (p : PortId) (i : Slot) (r : Record) : State :=
  (s.setSlot i (some { r with watchers := r.watchers.set p none })).modifyPort p fun q =>
    { q with watchCount := q.watchCount - 1 }

/-- R81. -/
def serveUnwatch (p : PortId) (f : RequestFrame) (s : State) : State :=
  withRecord p f s fun i r =>
    if r.watchers[p].isSome then
      let s := s.clearWatch p i r
      s.answer p f (answerWith .ok (.watchCount s.ports[p].watchCount))
    else s.answer p f (answerWith .notWatching (.watchCount s.ports[p].watchCount))

/-- UNWATCH, R81. -/
def execUnwatch (p : PortId) (s : State) : Host.Outcome State Fault Refusal :=
  .next (serve 0x41 p s (serveUnwatch p))

/-- R93: the gate in the port's Port Link. Where PRST# has freed the request's reply entry since the engine took it, the
gate stays SHUT, as R171 and R175 have it for the reset port (log 36). -/
def gatedPort (tag : Tag) (g : Gate) (q : Port) : Port := if tag ∈ q.reserved then { q with gate := g } else q

/-- R93. -/
def serveGate (p : PortId) (f : RequestFrame) (s : State) : State :=
  match Gate.ofByte? (f.byteAt 0) with
  | none => s.answer p f (plain .badOperand)
  | some g => (s.modifyPort p (gatedPort f.tag g)).answer p f (answerWith .ok (.gate g))

/-- GATE, R93. -/
def execGate (p : PortId) (s : State) : Host.Outcome State Fault Refusal :=
  .next (serve 0x42 p s (serveGate p))

end Sys2Proof.Machine
end

