-- ==== Sys2Proof/Machine/Supervision.lean ====
section
/-! DEFINITION. SYNC (chapter 7), the eviction procedure and the supervision requests (chapter 10): EVICT,
CLEAR-FAULT, CENSUS, GROUP-STATUS; and the eviction event of PRST#. -/

namespace Sys2Proof.Machine

/-! ### SYNC (R133, R134) -/

/-- R134: a SYNC joins the tail of its group's sync list. -/
def State.parkSync (s : State) (p : PortId) (f : RequestFrame) (g : GroupId) (captured : Bool) : State :=
  (s.setGroup g { s.groups[g] with syncs := s.groups[g].syncs ++ [⟨p, f.tag, f.key, captured⟩] }).park p

/-- A SYNC's own reply (R133). -/
def State.answerSync (s : State) (p : PortId) (f : RequestFrame) (h : HomeId) (st : Status) : State :=
  s.answer p f (answerWith st (s.syncPayload h.group (some h)))

/-- R133, R134: the group's state decides. -/
def syncGroup (p : PortId) (f : RequestFrame) (s : State) (h : HomeId) : State :=
  match s.groups[h.group].state with
  | .faulted => s.answerSync p f h .storeFault
  | .worn => s.answerSync p f h .storeWorn
  | .clean => s.answerSync p f h .synced
  | .queued =>
    if Config.parkLimit ≤ s.ports[p].parked then s.answerSync p f h .parkLimit
    else (s.parkSync p f h.group false).promote h.group
  | .rewriting _ _ =>
    if Config.parkLimit ≤ s.ports[p].parked then s.answerSync p f h .parkLimit
    else s.parkSync p f h.group (!s.groups[h.group].dirtyAgain)

/-- R133. -/
def serveSync (p : PortId) (f : RequestFrame) (s : State) : State :=
  withRecord p f s fun _ r =>
    match r.home with
    | none => s.answer p f (plain .notDurable)
    | some h => syncGroup p f s h

/-- SYNC, R133. -/
def execSync (p : PortId) (s : State) : Host.Outcome State Fault Refusal :=
  .next (serve 0x50 p s (serveSync p))

/-! ### The eviction procedure (R178 to R181) -/

/-- The slots of the records a port holds, in ascending key order (R179). -/
def State.heldSlots (s : State) (p : PortId) : List Slot :=
  (s.index.map IndexEntry.slot).filter fun i => decide (s.holderOf i = some p)

/-- R179: every hold of the port ends, one record after another. -/
def State.endHolds (s : State) (slots : List Slot) : State :=
  match slots with
  | [] => s
  | i :: rest => State.endHolds (s.endHold i false) rest

/-- The port's parked claims with their slots, in ascending key order (R180). -/
def State.claimsOf (s : State) (p : PortId) : List (Slot × ParkedClaim) :=
  (s.index.map IndexEntry.slot).filterMap fun i =>
    (s.slots[i].bind fun r => r.claimOf p).map fun w => (i, w)

def evictedReply (code : Byte) (tag : Tag) : Reply := ⟨tag, code, .evicted, noFlags, none, .absent⟩

/-- R180: one parked claim of the evicted port ends, with a reply under EVICT. -/
def State.evictClaim (s : State) (fills : Bool) (c : Slot × ParkedClaim) : State :=
  let s := s.withdrawClaim c.1 c.2
  if fills then s.fill c.2.port (evictedReply claimCode c.2.tag) else s

/-- R180: parked claims of the evicted port end, one after another. -/
def State.evictClaims (s : State) (fills : Bool) (cs : List (Slot × ParkedClaim)) : State :=
  match cs with
  | [] => s
  | c :: rest => State.evictClaims (s.evictClaim fills c) fills rest

/-- The tags of a port's parked SYNCs, in the order in which they parked, which is the order in which their reply
entries were reserved (R180; log 20); those whose entry PRST# has freed come last. -/
def State.syncTagsOf (s : State) (p : PortId) : List Tag :=
  let tags := s.groups.toList.flatMap fun x => (x.syncs.filter fun w => decide (w.port = p)).map ParkedSync.tag
  s.ports[p].reserved.filter (fun t => decide (t ∈ tags))
    ++ tags.filter (fun t => !decide (t ∈ s.ports[p].reserved))

/-- R180: every parked SYNC of the port leaves its list. -/
def State.withdrawSyncs (s : State) (p : PortId) : State :=
  { s with groups := vmap (fun x => { x with syncs := x.syncs.filter fun w => decide (w.port ≠ p) }) s.groups }

/-- R180: one parked SYNC of the evicted port ends, with a reply under EVICT. -/
def State.evictSync (s : State) (fills : Bool) (p : PortId) (t : Tag) : State :=
  let s := s.unpark p
  if fills then s.fill p (evictedReply syncCode t) else s

/-- R180: parked SYNCs of the evicted port end, one after another. -/
def State.evictSyncs (s : State) (fills : Bool) (p : PortId) (tags : List Tag) : State :=
  match tags with
  | [] => s
  | t :: rest => State.evictSyncs (s.evictSync fills p t) fills p rest

/-- R181, R95: every watch of the port is removed, its notice queue is emptied and a held notice will not come back. -/
def evictedPort (q : Port) : Port :=
  { q with watchCount := 0, notices := [], held := q.held.map fun h => { h with evicted := true } }

/-- R181. -/
def State.dropPortWatches (s : State) (p : PortId) : State :=
  { s with slots := vmap (fun x => x.map fun r => { r with watchers := r.watchers.set p none }) s.slots }

/-- R178, steps 1 to 3. -/
def State.evictWork (s : State) (p : PortId) (fills : Bool) : State :=
  let s := s.endHolds (s.heldSlots p)
  let s := s.evictClaims fills (s.claimsOf p)
  (s.withdrawSyncs p).evictSyncs fills p (s.syncTagsOf p)

/-- R178: the eviction of a port, as one item; `fills` under EVICT. -/
def State.evict (s : State) (p : PortId) (fills : Bool) : State :=
  ((s.evictWork p fills).dropPortWatches p).modifyPort p evictedPort

/-- R177: what the eviction of a port will have ended. -/
def State.evictReport (s : State) (p : PortId) : EvictReport :=
  let held := s.endHolds (s.heldSlots p)
  let done := s.evictWork p true
  { port := p
    holds := (s.heldSlots p).length
    claims := (held.claimsOf p).length
    syncs := (held.syncTagsOf p).length
    watches := done.ports[p].watchCount
    notices := done.ports[p].notices.length }

/-! ### EVICT and the eviction event (R177, R182) -/

/-- R190: a port operand. -/
def portOperand (x : Byte) : Option PortId := if h : x.toNat < 4 then some ⟨x.toNat, h⟩ else none

/-- R190: a group operand. -/
def groupOperand (x : Byte) : Option GroupId := if h : x.toNat < 16 then some ⟨x.toNat, h⟩ else none

/-- R177. -/
def serveEvict (p : PortId) (f : RequestFrame) (s : State) : State :=
  if !s.supervisor p then s.answer p f (plain .privilege)
  else
    match portOperand (f.byteAt 0) with
    | none => s.answer p f (plain .badOperand)
    | some v => (s.evict v true).answer p f (answerWith .ok (.evict (s.evictReport v)))

/-- EVICT, R177. -/
def execEvict (p : PortId) (s : State) : Host.Outcome State Fault Refusal :=
  .next (serve 0x60 p s (serveEvict p))

/-- EVICTION_EVENT, R178 and R182: nothing is filled. -/
def execEvictionEvent (s : State) : Host.Outcome State Fault Refusal :=
  match s.event with
  | some (.eviction p) => .next (s.evict p false).finish
  | some (.expiry ..) => .next s
  | some (.capture _) => .next s
  | some (.committed ..) => .next s
  | some (.faulted _) => .next s
  | none => .next s

/-! ### CLEAR-FAULT (R131, R183) -/

/-- R131. -/
def State.clearFault (s : State) (g : GroupId) : State :=
  { s.setGroup g { s.groups[g] with state := .queued, unpersisted := false } with queue := s.queue ++ [g] }

/-- The reply to a CLEAR-FAULT (R183). -/
def State.answerClear (s : State) (p : PortId) (f : RequestFrame) (g : GroupId) (st : Status) : State :=
  s.answer p f (answerWith st (.clearFault g s.groups[g].state s.queue.length))

/-- R183. -/
def serveClearFault (p : PortId) (f : RequestFrame) (s : State) : State :=
  if !s.supervisor p then s.answer p f (plain .privilege)
  else
    match groupOperand (f.byteAt 0) with
    | none => s.answer p f (plain .badOperand)
    | some g =>
      if s.groups[g].state = .faulted then (s.clearFault g).answerClear p f g .ok
      else s.answerClear p f g .notFaulted

/-- CLEAR_FAULT, R183. -/
def execClearFault (p : PortId) (s : State) : Host.Outcome State Fault Refusal :=
  .next (serve 0x61 p s (serveClearFault p))

/-! ### CENSUS and GROUP-STATUS (R184, R185) -/

def State.countRecords (s : State) (st : RecState) : Nat :=
  s.slots.toList.countP fun x => x.any fun r => decide (r.state = st)

def State.countFreeSlots (s : State) : Nat := s.slots.toList.countP fun x => x.isNone

def Home.isFree : Home → Bool
  | .free => true
  | .occupied _ => false
  | .vacated _ => false

def Home.isOccupied : Home → Bool
  | .free => false
  | .occupied _ => true
  | .vacated _ => false

def Home.isVacated : Home → Bool
  | .free => false
  | .occupied _ => false
  | .vacated _ => true

/-- Counts homes of the whole Home Map. -/
def State.countHomes (s : State) (which : Home → Bool) : Nat :=
  (s.homeMap.toList.map fun row => row.toList.countP which).sum

def GroupState.isRewriting : GroupState → Bool
  | .rewriting _ _ => true
  | .clean => false
  | .queued => false
  | .faulted => false
  | .worn => false

def State.countGroups (s : State) (which : GroupState → Bool) : Nat :=
  s.groups.toList.countP fun x => which x.state

/-- R184. -/
def State.censusReport (s : State) : CensusReport where
  live := s.countRecords .live
  retiring := s.countRecords .retiring
  freeSlots := s.countFreeSlots
  freeHomes := s.countHomes Home.isFree
  occupiedHomes := s.countHomes Home.isOccupied
  vacatedHomes := s.countHomes Home.isVacated
  queueLength := s.queue.length
  clean := s.countGroups fun x => decide (x = .clean)
  queued := s.countGroups fun x => decide (x = .queued)
  rewriting := s.countGroups GroupState.isRewriting
  faulted := s.countGroups fun x => decide (x = .faulted)
  worn := s.countGroups fun x => decide (x = .worn)
  suspended := s.suspended.isSome
  pfw := s.pfw
  time := s.reading

/-- R184. -/
def serveCensus (p : PortId) (f : RequestFrame) (s : State) : State :=
  s.answer p f (answerWith .ok (.census s.censusReport))

/-- CENSUS, R184. -/
def execCensus (p : PortId) (s : State) : Host.Outcome State Fault Refusal :=
  .next (serve 0x62 p s (serveCensus p))

/-- R185. -/
def State.groupReport (s : State) (g : GroupId) : GroupReport where
  group := g
  state := s.groups[g].state
  captureHeld := s.groups[g].capture.isSome
  current := s.groups[g].current
  wear := s.groups[g].wear
  suspendCount := s.groups[g].suspendCount
  dirtyAgain := s.groups[g].dirtyAgain
  unpersisted := s.groups[g].unpersisted
  restoreLost := s.groups[g].restoreLost
  syncs := s.groups[g].syncs.length
  freeHomes := s.homeMap[g].toList.countP Home.isFree
  occupiedHomes := s.homeMap[g].toList.countP Home.isOccupied
  vacatedHomes := s.homeMap[g].toList.countP Home.isVacated

/-- R185. -/
def serveGroupStatus (p : PortId) (f : RequestFrame) (s : State) : State :=
  match groupOperand (f.byteAt 0) with
  | none => s.answer p f (plain .badOperand)
  | some g => s.answer p f (answerWith .ok (.groupStatus (s.groupReport g)))

/-- GROUP_STATUS, R185. -/
def execGroupStatus (p : PortId) (s : State) : Host.Outcome State Fault Refusal :=
  .next (serve 0x63 p s (serveGroupStatus p))

end Sys2Proof.Machine
end

