-- ==== Sys2Proof/Machine/Rewrites.lean ====
section
/-! DEFINITION. The other internal events of the Table Engine (LEASE_EXPIRY, WAIT_EXPIRY, CAPTURE_EVENT, COMMIT_EVENT,
COMMIT_EVENT_FAULTED) and the steps of a rewrite (REWRITE_START, ERASE_DONE, ERASE_TIMEOUT, ERASE_PAUSED,
PROGRAMMING_DONE, PROGRAM_TIMEOUT, COMMIT_MARK_DONE, COMMIT_MARK_TIMEOUT). -/

namespace Sys2Proof.Machine

/-! ### Expiry events (R68, R72, R73) -/

/-- R68, R72: the hold ends if it is still the one the event was raised for. -/
def State.expireLease (s : State) (key : Key) (p : PortId) (n : Serial) : State :=
  match s.lookup key with
  | none => s
  | some (i, r) => if r.holder = some p ∧ r.lease = some n then s.endHold i true else s

/-- LEASE_EXPIRY, R72. -/
def execLeaseExpiry (s : State) : Host.Outcome State Fault Refusal :=
  match s.event with
  | some (.expiry .lease key p n) => .next (s.expireLease key p n).finish
  | some (.expiry .wait _ _ _) => .next s
  | some (.capture _) => .next s
  | some (.committed ..) => .next s
  | some (.faulted _) => .next s
  | some (.eviction _) => .next s
  | none => .next s

/-- R68, R73: the parked claim ends if it is still the one the event was raised for. -/
def State.expireWait (s : State) (key : Key) (p : PortId) (n : Serial) : State :=
  match s.lookup key with
  | none => s
  | some (i, r) =>
    match r.claimOf p with
    | none => s
    | some w => if w.wait.serial? = some n then s.endClaim i w .waitExpired else s

/-- WAIT_EXPIRY, R73. -/
def execWaitExpiry (s : State) : Host.Outcome State Fault Refusal :=
  match s.event with
  | some (.expiry .wait key p n) => .next (s.expireWait key p n).finish
  | some (.expiry .lease _ _ _) => .next s
  | some (.capture _) => .next s
  | some (.committed ..) => .next s
  | some (.faulted _) => .next s
  | some (.eviction _) => .next s
  | none => .next s

/-! ### Starting a rewrite and its capture (R120, R121) -/

/-- REWRITE_START, R120. -/
def execRewriteStart (s : State) : Host.Outcome State Fault Refusal :=
  if s.phase = .running then .next s.startWork else .next s

/-- R121: the Store Engine accepts a capture if the group is REWRITING in phase CAPTURED with none yet, and orders the
erase. -/
def State.acceptCapture (s : State) (g : GroupId) (capture : Vector CapturedHome 16) : State :=
  match s.groups[g].state, s.groups[g].capture with
  | .rewriting .captured at', none =>
    s.setGroup g { s.groups[g] with
      state := .rewriting .erasing at'
      capture := some capture
      dirtyAgain := false
      syncs := s.groups[g].syncs.map fun w => { w with captured := true }
      ticks := 0 }
  | _, _ => s

/-- CAPTURE_EVENT, R121. -/
def execCaptureEvent (s : State) : Host.Outcome State Fault Refusal :=
  match s.event with
  | some (.capture g) => .next (s.acceptCapture g (s.captureGroup g)).finish
  | some (.expiry ..) => .next s
  | some (.committed ..) => .next s
  | some (.faulted _) => .next s
  | some (.eviction _) => .next s
  | none => .next s

/-! ### Commit events (R126, R129) -/

/-- R126, step 3: a WORN group's remaining SYNCs are answered and a STORE-WORN notice is handed on. -/
def State.settleWorn (s : State) (g : GroupId) : State :=
  if s.groups[g].state = .worn then
    (s.answerSyncs g (fun _ => true) .storeWorn).deviceNotice kindStoreWorn (some g)
  else s

/-- R126. The SYNCs answered SYNCED are those marked captured when the event is served. One that was in progress at the
switch may have parked marked in the group's next rewrite by then (R134), and is answered with them (log 35). -/
def State.commitGroup (s : State) (g : GroupId) (noted : List (Fin 16)) : State :=
  ((s.settleHomes g noted).answerSyncs g ParkedSync.captured .synced).settleWorn g

/-- COMMIT_EVENT, R126. -/
def execCommitEvent (s : State) : Host.Outcome State Fault Refusal :=
  match s.event with
  | some (.committed g noted) => .next (s.commitGroup g noted).finish
  | some (.expiry ..) => .next s
  | some (.capture _) => .next s
  | some (.faulted _) => .next s
  | some (.eviction _) => .next s
  | none => .next s

/-- COMMIT_EVENT_FAULTED, R129. -/
def execCommitEventFaulted (s : State) : Host.Outcome State Fault Refusal :=
  match s.event with
  | some (.faulted g) =>
    .next ((s.answerSyncs g (fun _ => true) .storeFault).deviceNotice kindStoreFault (some g)).finish
  | some (.expiry ..) => .next s
  | some (.capture _) => .next s
  | some (.committed ..) => .next s
  | some (.eviction _) => .next s
  | none => .next s

/-! ### The array's reports (R122 to R124, R136) -/

/-- The active rewrite in a phase: its group, attempt and capture. -/
structure ActiveRewrite where
  group : GroupId
  attempt : Attempt
  capture : Vector CapturedHome 16
  deriving DecidableEq, Repr

/-- The active rewrite, if it is in phase `ph` with its capture. -/
def State.activeIn (s : State) (ph : RewritePhase) : Option ActiveRewrite :=
  match s.active with
  | none => none
  | some g =>
    match s.groups[g].state, s.groups[g].capture with
    | .rewriting ph' at', some capture => if ph' = ph then some ⟨g, at', capture⟩ else none
    | _, _ => none

/-- Moves a rewrite to its next phase, whose time starts at 0. -/
def State.enterPhase (s : State) (a : ActiveRewrite) (ph : RewritePhase) : State :=
  s.setGroup a.group { s.groups[a.group] with state := .rewriting ph a.attempt, ticks := 0 }

/-- R122 to R124: the rewrite has failed, leaving its spare bank as `m`. -/
def State.failsLeaving (s : State) (a : ActiveRewrite) (m : Memory) : State :=
  State.rewriteFails { s.setSpare a.group (failedBank a.attempt m) with fresh := s.fresh + 1 } a.group a.attempt

/-- An erase that did not end well: the bank is left as `left` says and the rewrite has failed (R122). -/
def State.eraseFails (s : State) (a : ActiveRewrite) (left : GroupId → Nat → Memory) : State :=
  s.failsLeaving a (left a.group s.fresh)

/-- R122: whether the erase was done within the active erasing time of its attempt (log 12). -/
def eraseInTime (x : Group) : Bool := decide (x.ticks ≤ Config.eraseLimit)

/-- ERASE_DONE, R122. A pause ordered and not yet in effect is not made (R136). -/
def execEraseDone (ok : Bool) (s : State) : Host.Outcome State Fault Refusal :=
  match s.activeIn .erasing with
  | none => .next s
  | some a =>
    if ok then
      if eraseInTime s.groups[a.group] then
        .next { (s.setSpare a.group Memory.erased).enterPhase a .programming with pauseOrdered := false }
      else .next (s.eraseFails a leftNotValid)
    else .next (s.eraseFails a leftInvalid)

/-- ERASE_TIMEOUT, R122. -/
def execEraseTimeout (s : State) : Host.Outcome State Fault Refusal :=
  match s.activeIn .erasing with
  | none => .next s
  | some a => .next (s.eraseFails a leftNotValid)

/-- R136: the active rewrite becomes the suspended one. -/
def State.suspendActive (s : State) (a : ActiveRewrite) : State :=
  { s.setGroup a.group { s.groups[a.group] with
      state := .rewriting .suspended a.attempt, suspendCount := s.groups[a.group].suspendCount + 1 } with
    active := none
    suspended := some a.group
    pauseOrdered := false }

/-- ERASE_PAUSED, R136: the active rewrite becomes the suspended one and the head group is started. -/
def execErasePaused (s : State) : Host.Outcome State Fault Refusal :=
  match s.activeIn .erasing with
  | none => .next s
  | some a =>
    if s.pauseOrdered then
      if s.pfw then .next (s.suspendActive a) else .next (s.suspendActive a).startHead
    else .next s

/-- R123, R124: whether a phase has lasted no longer than its limit (log 12). -/
def programInTime (x : Group) : Bool := decide (x.ticks ≤ Config.programLimit)

/-- R123: programming that did not end well. -/
def State.programFails (s : State) (a : ActiveRewrite) : State :=
  s.failsLeaving a (leftProgrammed s.fresh)

/-- R123: the image the rewrite programs, but for the commit mark. -/
def State.programmedImage (s : State) (a : ActiveRewrite) : Memory :=
  Memory.writeBytes Memory.erased 0 (imageBytes a.group (s.groups[a.group].wear + 1) a.capture)

/-- PROGRAMMING_DONE, R123. -/
def execProgrammingDone (ok : Bool) (s : State) : Host.Outcome State Fault Refusal :=
  match s.activeIn .programming with
  | none => .next s
  | some a =>
    if ok ∧ programInTime s.groups[a.group] then
      .next ((s.setSpare a.group (s.programmedImage a)).enterPhase a .committing)
    else .next (s.programFails a)

/-- PROGRAM_TIMEOUT, R123. -/
def execProgramTimeout (s : State) : Host.Outcome State Fault Refusal :=
  match s.activeIn .programming with
  | none => .next s
  | some a => .next (s.programFails a)

/-- R124: a commit mark that did not end well. -/
def State.markFails (s : State) (a : ActiveRewrite) : State :=
  s.failsLeaving a (markFailed (s.spareBank a.group) s.fresh)

/-- COMMIT_MARK_DONE, R124 and R125. -/
def execCommitMarkDone (ok : Bool) (s : State) : Host.Outcome State Fault Refusal :=
  match s.activeIn .committing with
  | none => .next s
  | some a =>
    if ok ∧ programInTime s.groups[a.group] then
      .next ((s.setSpare a.group ((s.spareBank a.group).writeBytes 297 commitMark)).switch a.group a.capture)
    else .next (s.markFails a)

/-- COMMIT_MARK_TIMEOUT, R124. -/
def execCommitMarkTimeout (s : State) : Host.Outcome State Fault Refusal :=
  match s.activeIn .committing with
  | none => .next s
  | some a => .next (s.markFails a)

end Sys2Proof.Machine
end

