-- ==== Sys2Proof/Machine/Timer.lean ====
section
/-! DEFINITION. The Deadline Timer's commands, TICK and FALLING_DUE (R63 to R67). -/

namespace Sys2Proof.Machine

/-- R67: the head entry, whose due tick is reached, leaves the list and its expiry event is raised. -/
def State.fallDue (s : State) : State :=
  match s.deadlines with
  | [] => s
  | d :: rest =>
    if reached s.time d.due then State.raise { s with deadlines := rest } d.event else s

/-- R67: every entry at the head that is due has fallen due before device time advances again (log 11). -/
def State.fallAllDue (s : State) : State :=
  State.raiseAll { s with deadlines := s.laterDeadlines } (s.dueDeadlines.map Deadline.event)

/-- R122 to R124: the time of the active rewrite's erase or phase goes on by one tick (log 12). -/
def Group.tick (x : Group) : Group :=
  match x.state with
  | .rewriting .erasing _ => { x with ticks := x.ticks + 1 }
  | .rewriting .programming _ => { x with ticks := x.ticks + 1 }
  | .rewriting .committing _ => { x with ticks := x.ticks + 1 }
  | .rewriting .captured _ => x
  | .rewriting .suspended _ => x
  | .clean => x
  | .queued => x
  | .faulted => x
  | .worn => x

def State.tickActive (s : State) : State :=
  match s.active with
  | none => s
  | some g => s.setGroup g s.groups[g].tick

/-- TICK, R63: device time advances by one, modulo 2^32, from the end of a reset on. -/
def execTick (s : State) : Host.Outcome State Fault Refusal :=
  if s.phase = .running ∨ s.phase = .restoring then
    .next { s.fallAllDue.tickActive with time := s.time + 1 }
  else .next s

/-- FALLING_DUE, R67. -/
def execFallingDue (s : State) : Host.Outcome State Fault Refusal := .next s.fallDue

end Sys2Proof.Machine
end

