-- ==== Sys2Proof/Machine/Transactions.lean ====
section
/-! DEFINITION. The port transactions (chapter 9): TRANSACTION_BEGIN, SUBMIT, FETCH, FETCH_RELEASE, FETCH_NOTICE,
FETCH_NOTICE_RELEASE, PEEK, UNKNOWN_TRANSACTION. -/

namespace Sys2Proof.Machine

/-- R158, R173: whether a port takes part in transactions at all. -/
def State.linked (s : State) (p : PortId) : Bool :=
  !s.ports[p].prst && (decide (s.phase = .running) || decide (s.phase = .restoring))

/-- Changes a port whose select is asserted and whose code byte has not been acted on; otherwise there is no
transaction for the command to go on with (log 2). -/
def State.inBegun (s : State) (p : PortId) (f : Port → Port) : State :=
  if s.linked p ∧ s.ports[p].transaction = .begun then s.modifyPort p f else s

/-- R158, R159: a transaction begins and its status byte is taken. One released before its code byte was whole has had
no effect, so it gives way to the new one (log 22). -/
def beginTransaction (ready : Bool) (q : Port) : Port :=
  { q with transaction := .begun, sdo := [statusByte ready q] }

/-- TRANSACTION_BEGIN, R158. -/
def execTransactionBegin (p : PortId) (s : State) : Host.Outcome State Fault Refusal :=
  if s.linked p ∧ (s.ports[p].transaction = .none ∨ s.ports[p].transaction = .begun) then
    .next (s.modifyPort p (beginTransaction s.ready))
  else .next s

/-! ### SUBMIT (R161 to R163) -/

/-- R162, check 2: the length byte is 7 to 32 and is the count of whole bytes clocked. -/
def lengthGood (bytes : List Byte) : Bool :=
  match bytes with
  | [] => false
  | n :: _ => decide (7 ≤ n.toNat) && decide (n.toNat ≤ 32) && decide (bytes.length = n.toNat)

/-- R163: the CRC-16 over every byte before it. -/
def crcGood (bytes : List Byte) : Bool :=
  decide (bytes16 (crc16 (bytes.take (bytes.length - 2))) = bytes.drop (bytes.length - 2))

/-- R161: the parts of a frame; the tag is the lower four bits of its byte. -/
def parseFrame (bytes : List Byte) : RequestFrame where
  code := bytes.getD 1 0
  tag := (bytes.getD 2 0).setWidth 4
  key := bytes.getD 3 0 ++ bytes.getD 4 0
  operands := (bytes.take (bytes.length - 2)).drop 5

/-- R162: the judgment of a frame. -/
def judgeSubmit (ready : Bool) (q : Port) (bytes : List Byte) : SubmitResult :=
  if !ready then .notReady
  else if !lengthGood bytes then .badLength
  else if !crcGood bytes then .badCrc
  else if (parseFrame bytes).tag ∈ q.tags then .tagInUse
  else if q.requests.length < Config.requestDepth then .accepted
  else .queueFull

/-- R162: an accepted frame joins the request queue and its tag the tags in use; any other changes the last-submit
result alone. -/
def submitPort (ready : Bool) (bytes : List Byte) (q : Port) : Port :=
  if judgeSubmit ready q bytes = .accepted then
    { q with
      requests := q.requests ++ [parseFrame bytes]
      tags := q.tags ++ [(parseFrame bytes).tag]
      lastSubmit := .accepted
      transaction := .none }
  else { q with lastSubmit := judgeSubmit ready q bytes, transaction := .none }

/-- SUBMIT, R162. A free engine takes an accepted request at once (R143). -/
def execSubmit (p : PortId) (bytes : List Byte) (s : State) : Host.Outcome State Fault Refusal :=
  .next (s.inBegun p (submitPort s.ready bytes)).engaged

/-! ### FETCH (R167) -/

/-- What a FETCH drives behind the status byte (R167, R192). -/
def fetchFrame (r : Option Reply) : List Byte :=
  match r with
  | none => emptyMarker false
  | some r => r.frame

/-- R167: the oldest filled reply is chosen, or the empty marker. -/
def fetchPort (q : Port) : Port :=
  { q with transaction := .fetch q.filled.head?, sdo := q.sdo ++ fetchFrame q.filled.head? }

/-- FETCH, R167. -/
def execFetch (p : PortId) (s : State) : Host.Outcome State Fault Refusal := .next (s.inBegun p fetchPort)

/-- R167: a reply clocked out whole is removed and its entry and tag freed; a cut-short one stays. -/
def fetchReleasePort (clocked : Nat) (q : Port) : Port :=
  match q.transaction with
  | .fetch (some r) =>
    if r.frame.length ≤ clocked then
      { q with filled := q.filled.tail, tags := q.tags.erase r.tag, transaction := .none }
    else { q with transaction := .none }
  | .fetch none => { q with transaction := .none }
  | .none => q
  | .begun => q
  | .notice => q
  | .marker => q

/-- FETCH_RELEASE, R167. The entry freed may make the port's head request eligible (R145). -/
def execFetchRelease (p : PortId) (clocked : Nat) (s : State) : Host.Outcome State Fault Refusal :=
  .next (s.modifyPort p (fetchReleasePort clocked)).engaged

/-! ### FETCH-NOTICE (R89 to R91, R168) -/

/-- R89, R91: the head of the notice queue becomes the held notice, or the empty marker carries NOTICE-LOST. -/
def fetchNoticePort (q : Port) : Port :=
  match q.notices with
  | n :: rest =>
    { q with notices := rest, held := some ⟨n, false⟩, transaction := .notice, sdo := q.sdo ++ n.frame }
  | [] => { q with transaction := .marker, lostSince := false, sdo := q.sdo ++ emptyMarker q.lost }

/-- FETCH_NOTICE, R89. -/
def execFetchNotice (p : PortId) (s : State) : Host.Outcome State Fault Refusal := .next (s.inBegun p fetchNoticePort)

/-- R90: a held notice put back stands at the head, merged with a fresh notice of its key (log 19). -/
def putBack (n : Notice) (notices : List Notice) : List Notice :=
  match notices.find? (fun m => m.sameKey n) with
  | none => n :: notices
  | some fresh => n.merge fresh :: notices.filter fun m => !m.sameKey n

/-- R90, R91: the settling of a FETCH-NOTICE at select release. -/
def fetchNoticeReleasePort (clocked : Nat) (q : Port) : Port :=
  match q.transaction with
  | .notice =>
    match q.held with
    | none => { q with transaction := .none }
    | some h =>
      if h.notice.frame.length ≤ clocked ∨ h.evicted then { q with held := none, transaction := .none }
      else { q with held := none, notices := putBack h.notice q.notices, transaction := .none }
  | .marker =>
    if (emptyMarker q.lost).length ≤ clocked ∧ !q.lostSince then { q with lost := false, transaction := .none }
    else { q with transaction := .none }
  | .none => q
  | .begun => q
  | .fetch _ => q

/-- FETCH_NOTICE_RELEASE, R90 and R91. -/
def execFetchNoticeRelease (p : PortId) (clocked : Nat) (s : State) : Host.Outcome State Fault Refusal :=
  .next (s.modifyPort p (fetchNoticeReleasePort clocked))

/-! ### PEEK and unknown transactions (R160, R169) -/

/-- R169: the extended status is driven and nothing is changed. The figures, the notice count of R96 among them, are
taken at this row, when the code byte is whole (log 33). -/
def peekPort (q : Port) : Port := { q with transaction := .none, sdo := q.sdo ++ q.extendedStatus }

/-- PEEK, R169. -/
def execPeek (p : PortId) (s : State) : Host.Outcome State Fault Refusal := .next (s.inBegun p peekPort)

/-- R160: fill bytes are driven and the last-submit result becomes BAD-TRANSACTION. -/
def unknownPort (q : Port) : Port := { q with transaction := .none, lastSubmit := .badTransaction }

/-- UNKNOWN_TRANSACTION, R160; a code of R189 names another transaction. -/
def execUnknownTransaction (p : PortId) (code : Byte) (s : State) : Host.Outcome State Fault Refusal :=
  match transactionKind code with
  | .unknown => .next (s.inBegun p unknownPort)
  | .submit => .next s
  | .fetch => .next s
  | .fetchNotice => .next s
  | .peek => .next s

end Sys2Proof.Machine
end

