-- ==== Sys2Proof/Machine/Dispatch.lean ====
section
/-! DEFINITION. The command dispatch: one arm for each row of spec/opcode_table.json, in the table's order. -/

namespace Sys2Proof.Machine

def exec (i : Instr) (s : State) : Host.Outcome State Fault Refusal :=
  match i with
  | .deviceReset => Sys2Proof.Machine.execDeviceReset s
  | .restore psv0 psv1 psv2 psv3 => Sys2Proof.Machine.execRestore psv0 psv1 psv2 psv3 s
  | .restoreEnd => Sys2Proof.Machine.execRestoreEnd s
  | .prstAsserted p => Sys2Proof.Machine.execPrstAsserted p s
  | .prstDeasserted p => Sys2Proof.Machine.execPrstDeasserted p s
  | .pfwAsserted => Sys2Proof.Machine.execPfwAsserted s
  | .pfwDeasserted => Sys2Proof.Machine.execPfwDeasserted s
  | .tick => Sys2Proof.Machine.execTick s
  | .fallingDue => Sys2Proof.Machine.execFallingDue s
  | .transactionBegin p => Sys2Proof.Machine.execTransactionBegin p s
  | .submit p bytes => Sys2Proof.Machine.execSubmit p bytes s
  | .fetch p => Sys2Proof.Machine.execFetch p s
  | .fetchRelease p clocked => Sys2Proof.Machine.execFetchRelease p clocked s
  | .fetchNotice p => Sys2Proof.Machine.execFetchNotice p s
  | .fetchNoticeRelease p clocked => Sys2Proof.Machine.execFetchNoticeRelease p clocked s
  | .peek p => Sys2Proof.Machine.execPeek p s
  | .unknownTransaction p code => Sys2Proof.Machine.execUnknownTransaction p code s
  | .create p => Sys2Proof.Machine.execCreate p s
  | .find p => Sys2Proof.Machine.execFind p s
  | .next p => Sys2Proof.Machine.execNext p s
  | .retire p => Sys2Proof.Machine.execRetire p s
  | .setGuard p => Sys2Proof.Machine.execSetGuard p s
  | .set p => Sys2Proof.Machine.execSet p s
  | .setIf p => Sys2Proof.Machine.execSetIf p s
  | .add p => Sys2Proof.Machine.execAdd p s
  | .take p => Sys2Proof.Machine.execTake p s
  | .give p => Sys2Proof.Machine.execGive p s
  | .bitset p => Sys2Proof.Machine.execBitset p s
  | .bitclr p => Sys2Proof.Machine.execBitclr p s
  | .claim p => Sys2Proof.Machine.execClaim p s
  | .release p => Sys2Proof.Machine.execRelease p s
  | .renew p => Sys2Proof.Machine.execRenew p s
  | .cancelWait p => Sys2Proof.Machine.execCancelWait p s
  | .watch p => Sys2Proof.Machine.execWatch p s
  | .unwatch p => Sys2Proof.Machine.execUnwatch p s
  | .gate p => Sys2Proof.Machine.execGate p s
  | .sync p => Sys2Proof.Machine.execSync p s
  | .evict p => Sys2Proof.Machine.execEvict p s
  | .clearFault p => Sys2Proof.Machine.execClearFault p s
  | .census p => Sys2Proof.Machine.execCensus p s
  | .groupStatus p => Sys2Proof.Machine.execGroupStatus p s
  | .badRequest p => Sys2Proof.Machine.execBadRequest p s
  | .leaseExpiry => Sys2Proof.Machine.execLeaseExpiry s
  | .waitExpiry => Sys2Proof.Machine.execWaitExpiry s
  | .evictionEvent => Sys2Proof.Machine.execEvictionEvent s
  | .rewriteStart => Sys2Proof.Machine.execRewriteStart s
  | .captureEvent => Sys2Proof.Machine.execCaptureEvent s
  | .eraseDone ok => Sys2Proof.Machine.execEraseDone ok s
  | .eraseTimeout => Sys2Proof.Machine.execEraseTimeout s
  | .erasePaused => Sys2Proof.Machine.execErasePaused s
  | .programmingDone ok => Sys2Proof.Machine.execProgrammingDone ok s
  | .programTimeout => Sys2Proof.Machine.execProgramTimeout s
  | .commitMarkDone ok => Sys2Proof.Machine.execCommitMarkDone ok s
  | .commitMarkTimeout => Sys2Proof.Machine.execCommitMarkTimeout s
  | .commitEvent => Sys2Proof.Machine.execCommitEvent s
  | .commitEventFaulted => Sys2Proof.Machine.execCommitEventFaulted s
  | .lossOfPower => Sys2Proof.Machine.execLossOfPower s

end Sys2Proof.Machine
end

