-- ==== Sys2Proof/Safety.lean ====
section
/-! DEFINITION. What counts as a safe run, the invariants of the block, and the words that the statements are written
in: what a request finds, and the state after a request by the manual's own account of it. -/

namespace Sys2Proof

/-- Every one of the next `k` steps from a state answers a next state. -/
def RunsFor : Nat → Machine.State → Prop
  | 0, _ => True
  | k + 1, s => ∃ t, Machine.step s = .next t ∧ RunsFor k t

/-- A state from which no run stops at a fault or a refusal. -/
def Safe (s : Machine.State) : Prop := ∀ k, RunsFor k s

end Sys2Proof

namespace Sys2Proof.Machine

/-! ### Invariants -/

/-- R6: the Key Index is in key order, each entry finds a record of its key, and each record, whose key is a record
key (R5), has its entry. -/
def IndexSound (s : State) : Prop :=
  s.index.Pairwise (fun a b => a.key < b.key)
    ∧ (∀ e ∈ s.index, s.slots[e.slot].map Record.key = some e.key)
    ∧ ∀ i : Slot, ∀ r ∈ s.slots[i], ⟨r.key, i⟩ ∈ s.index ∧ r.key ≠ 0x0000 ∧ r.key ≠ 0xFFFF

/-- R2, R41, R44, R57 and R79 on one record. -/
abbrev RecordSound (r : Record) : Prop :=
  (r.floor.toInt ≤ r.value.toInt ∧ r.value.toInt ≤ r.ceiling.toInt)
    ∧ (r.holder.isSome ↔ 1 ≤ r.holdCount) ∧ r.holdCount ≤ 15
    ∧ (r.holder = none → r.lease = none ∧ r.waiters = [])
    ∧ (r.state = .retiring → r.holder ≠ none ∧ r.waiters = [])
    ∧ (r.waiters.map ParkedClaim.port).Nodup ∧ r.waiters.length ≤ 3
    ∧ (∀ w ∈ r.waiters, some w.port ≠ r.holder ∧ w.key = r.key)
    ∧ ∀ q : PortId, ∀ x ∈ r.watchers[q], x.value ∨ x.holder ∨ x.life

/-- Every record of the table is sound. -/
def RecordsSound (s : State) : Prop := ∀ i : Slot, ∀ r ∈ s.slots[i], RecordSound r

/-- The slot of an occupied home. -/
def Home.slot? : Home → Option Slot
  | .free => none
  | .occupied i => some i
  | .vacated _ => none

/-- R98: a record's home and the home's slot name each other. -/
def HomesSound (s : State) : Prop :=
  (∀ (g : GroupId) (h : Fin 16), ∀ i ∈ (s.home ⟨g, h⟩).slot?, s.slots[i].map Record.home = some (some ⟨g, h⟩))
    ∧ ∀ i : Slot, ∀ r ∈ s.slots[i], ∀ h ∈ r.home, s.home h = .occupied i

/-- R1, R78, R98, R116, R155: what stands empty while the part is unpowered or held in reset. -/
def HeldSound (s : State) : Prop :=
  s.phase = .off ∨ s.phase = .reset →
    (∀ i : Slot, s.slots[i] = none) ∧ s.index = [] ∧ (∀ (g : GroupId) (h : Fin 16), s.home ⟨g, h⟩ = .free)
      ∧ s.events = [] ∧ s.item = none ∧ s.deadlines = [] ∧ s.queue = [] ∧ s.active = none ∧ s.suspended = none
      ∧ s.pauseOrdered = false

/-- R141: the internal events whose items have not ended, oldest first: the one being served and those that wait. -/
def State.waiting (s : State) : List Event := s.event.toList ++ s.events

/-- R141: the item in progress is a port's request. -/
abbrev State.servesRequest (s : State) : Prop := ∃ x ∈ s.item, ∃ p f, x.client = .request p f

/-- The deadline of an expiry event (R67). -/
def Event.expiring? : Event → Option (DeadlineKind × Key × PortId × Serial)
  | .expiry kind key p n => some (kind, key, p, n)
  | .capture _ => none
  | .committed _ _ => none
  | .faulted _ => none
  | .eviction _ => none

/-- The deadlines that run, and those that have fallen due and whose expiry event's item has not ended. -/
def State.expiring (s : State) : List (DeadlineKind × Key × PortId × Serial) :=
  s.deadlines.map (fun d => (d.kind, d.key, d.port, d.serial)) ++ s.waiting.filterMap Event.expiring?

/-- How many claims are parked on the table's records. -/
def State.parkedClaims (s : State) : Nat :=
  ((List.finRange 512).map fun i => (s.slots[i].map fun r => r.waiters.length).getD 0).sum

/-- R64 to R67 and R69: no serial is carried twice; the list is in order of due tick, none due more than 65535 ticks
ahead of device time or of the item's reading; an entry runs for a hold or a parked claim that stands under its serial,
and each lease and each limited wait has its entry or its expiry event. The last clause bounds the serials in use, so
that one is always left; a request in progress may still add a deadline and park a claim. -/
def DeadlinesSound (s : State) : Prop :=
  (s.deadlines.map Deadline.serial ++ s.waiting.filterMap Event.serial?).Nodup
    ∧ (∀ d ∈ s.deadlines, (d.due - s.time).toNat ≤ 65535 ∧ (d.due - s.reading).toNat ≤ 65535)
    ∧ s.deadlines.Pairwise (fun d e => d.due - s.time ≤ e.due - s.time)
    ∧ (∀ d ∈ s.deadlines, ∃ (i : Slot) (r : Record), s.slots[i] = some r ∧ r.key = d.key
        ∧ (d.kind = .lease → r.holder = some d.port ∧ r.lease = some d.serial)
        ∧ (d.kind = .wait → ∃ w ∈ r.waiters, w.port = d.port ∧ w.wait.serial? = some d.serial))
    ∧ (∀ i : Slot, ∀ r ∈ s.slots[i],
        (∀ n ∈ r.lease, ∃ p ∈ r.holder, (DeadlineKind.lease, r.key, p, n) ∈ s.expiring)
        ∧ ∀ w ∈ r.waiters, ∀ n ∈ w.wait.serial?, (DeadlineKind.wait, r.key, w.port, n) ∈ s.expiring)
    ∧ s.usedSerials.length + s.parkedClaims ≤ 3586
    ∧ (s.servesRequest → s.usedSerials.length + s.parkedClaims ≤ 3584)

/-- The tags of a port's outstanding requests (R157). -/
def Port.outstanding (q : Port) : List Tag :=
  q.requests.map RequestFrame.tag ++ q.reserved ++ q.filled.map Reply.tag

/-- The reply that a FETCH in progress sends (R167). -/
def Transaction.reply? : Transaction → Option Reply
  | .fetch r => r
  | .none => Option.none
  | .begun => Option.none
  | .notice => Option.none
  | .marker => Option.none

/-- R43, R79, R86, R89, R146, R157, R165 and R167 on one port. -/
def PortSound (q : Port) : Prop :=
  q.requests.length ≤ 4 ∧ q.reserved.length + q.filled.length ≤ 4
    ∧ q.tags.Nodup ∧ q.tags.Perm q.outstanding
    ∧ q.notices.length + (if q.held.isSome then 1 else 0) ≤ 8
    ∧ q.notices.Pairwise (fun m n => m.sameKey n = false)
    ∧ (q.held.isSome ↔ q.transaction = .notice)
    ∧ (∀ r ∈ q.transaction.reply?, q.filled.head? = some r)
    ∧ q.watchCount ≤ 64 ∧ q.parked ≤ 2

/-- R141 and R143: an item is in progress only while serving, and while serving the Table Engine is free only if no
event waits and no port has a head request with a free reply entry (R145). -/
def EngineSound (s : State) : Prop :=
  (s.item ≠ none → s.phase = .running)
    ∧ (s.phase = .running → s.item = none →
      s.events = [] ∧ ∀ p : PortId,
        s.ports[p].requests = [] ∨ 4 ≤ s.ports[p].reserved.length + s.ports[p].filled.length)

/-- Every port is sound, and so is the Table Engine. -/
def PortsSound (s : State) : Prop := (∀ q : PortId, PortSound s.ports[q]) ∧ EngineSound s

/-- The tags of a port's parked SYNCs (R134). -/
def State.syncTags (s : State) (p : PortId) : List Tag :=
  (List.finRange 16).flatMap fun g => (s.groups[g].syncs.filter fun w => decide (w.port = p)).map ParkedSync.tag

/-- The tags of a port's parked claims and parked SYNCs (R42, R134). -/
def State.parkedTags (s : State) (p : PortId) : List Tag :=
  ((List.finRange 512).flatMap fun i =>
    (s.slots[i].map fun r => (r.waiters.filter fun w => decide (w.port = p)).map ParkedClaim.tag).getD [])
  ++ s.syncTags p

/-- R43, R50, R134, R146 and R175: a port's parked count is the number of its parked claims and SYNCs, and its reserved
entries are theirs and that of its request in progress (R147), unless PRST# has freed the entries and the eviction is
still to end; nothing is parked before serving begins. -/
def ParkedSound (s : State) : Prop :=
  ∀ p : PortId,
    s.ports[p].parked = (s.parkedTags p).length
      ∧ (if Event.eviction p ∈ s.waiting then s.ports[p].reserved = []
         else s.ports[p].reserved.Perm (s.parkedTags p ++ ((s.request p).map RequestFrame.tag).toList))
      ∧ (s.phase ≠ .running → s.parkedTags p = [])

/-- The phase of a group, absent unless it is REWRITING (R116). -/
def GroupState.phase? : GroupState → Option RewritePhase
  | .rewriting ph _ => some ph
  | .clean => none
  | .queued => none
  | .faulted => none
  | .worn => none

/-- R108, R116 and R121 on one group record. -/
abbrev GroupSound (x : Group) : Prop :=
  x.suspendCount ≤ 4 ∧ (x.capture.isSome ↔ x.state.phase? ≠ none ∧ x.state.phase? ≠ some .captured)
    ∧ (x.dirtyAgain = true → x.state.phase? ≠ none) ∧ (x.state = .worn ↔ 200000 ≤ x.wear.toNat)

/-- R118 and R136: the rewrite queue holds each QUEUED group once and no other; a REWRITING group is the suspended
rewrite's if its phase is SUSPENDED and the active rewrite's if it is another; a pause is ordered of an active erase
only. -/
def QueueSound (s : State) : Prop :=
  s.queue.Nodup ∧ (∀ g : GroupId, g ∈ s.queue ↔ s.groups[g].state = .queued)
    ∧ (∀ g : GroupId, s.suspended = some g ↔ s.groups[g].state.phase? = some .suspended)
    ∧ (∀ g : GroupId, s.active = some g ↔ s.groups[g].state.phase? ≠ none ∧ s.groups[g].state.phase? ≠ some .suspended)
    ∧ (s.pauseOrdered = true → s.suspended = none
        ∧ ∃ g : GroupId, s.active = some g ∧ s.groups[g].state.phase? = some .erasing ∧ s.groups[g].suspendCount < 4)
    ∧ ∀ g : GroupId, GroupSound s.groups[g]

/-- Every bank keeps its canonical form, and a FAULTED group's spare bank is INVALID (R107, R130). -/
def BanksSound (s : State) : Prop :=
  ∀ g : GroupId, s.banks[g].a.wf = true ∧ s.banks[g].b.wf = true
    ∧ (s.groups[g].state = .faulted → judgeBank g (s.spareBank g) = .invalid)

/-! ### Homes and images (R101) -/

/-- R101: the key that a home holds: that of the record that occupies it, or its image key. -/
def State.homeKey (s : State) (h : HomeId) : Option Key :=
  match s.home h with
  | .free => none
  | .occupied i => s.slots[i].map Record.key
  | .vacated k => some k

/-- R101: the key in a home's image in its group's current bank, if there is an occupied one. -/
def State.currentKey (s : State) (h : HomeId) : Option Key :=
  match s.groups[h.group].current with
  | none => none
  | some which =>
    let m := s.bank h.group which
    if m.read (5 + 18 * h.home.val) = 0 then none else some (imageKey m h.home)

/-- R121: the key in a home's image in its group's capture, if there is an occupied one. -/
def State.capturedKey (s : State) (h : HomeId) : Option Key :=
  match s.groups[h.group].capture with
  | none => none
  | some cap =>
    match cap[h.home] with
    | .occupied x => some x.key
    | .free => none
    | .vacated => none

/-- R101, first way, R100 and R126: while restoring and serving, an occupied image of a current bank or of a capture has
the key that its home holds; a bank in phase COMMITTING holds its capture; and a home that a commit event whose item has
not ended will settle has no image and, where a capture event of its group can still take effect, cannot be taken up. -/
def ImagesSound (s : State) : Prop :=
  s.phase = .restoring ∨ s.phase = .running →
    (∀ (h : HomeId) (k : Key), s.currentKey h = some k → s.homeKey h = some k)
    ∧ (∀ (h : HomeId) (k : Key), s.capturedKey h = some k → s.homeKey h = some k)
    ∧ (∀ (g : GroupId) (at' : Attempt) (cap : Vector CapturedHome 16), s.groups[g].state = .rewriting .committing at' →
        s.groups[g].capture = some cap →
        (s.spareBank g).readBytes 0 297 = imageBytes g (s.groups[g].wear + 1) cap)
    ∧ (∀ (g : GroupId) (noted : List (Fin 16)), Event.committed g noted ∈ s.waiting → ∀ h ∈ noted,
        s.currentKey ⟨g, h⟩ = none ∧ s.capturedKey ⟨g, h⟩ = none)
    ∧ (∀ (g : GroupId) (cap : Vector CapturedHome 16), s.groups[g].capture = some cap → Event.capture g ∈ s.waiting →
        ¬ s.servesRequest ∧ ∀ h : Fin 16, cap[h] = .vacated → (s.home ⟨g, h⟩).slot? = none)
    ∧ ∀ (g : GroupId) (noted : List (Fin 16)) (pre post : List Event),
        s.waiting = pre ++ Event.committed g noted :: post → Event.capture g ∈ pre →
        ¬ s.servesRequest ∧ ∀ h ∈ noted, (s.home ⟨g, h⟩).slot? = none

/-! ### What a request finds, and its answer -/

/-- R141: the item of a client is in progress. -/
abbrev Serves (s : State) (c : Client) : Prop := s.item.map Item.client = some c

/-- The Table Engine serves the request `f` of port `p` (R147), a frame of code `code` with the operand length laid down
for it (R150, steps 1 and 2). -/
abbrev Taken (s : State) (p : PortId) (f : RequestFrame) (code : Byte) : Prop :=
  Serves s (.request p f) ∧ f.code = code ∧ operandLength code = some f.operands.length

/-- R150, steps 4 and 5: a record key, and the record in slot `i` found for it. -/
abbrev Finds (s : State) (k : Key) (i : Slot) (r : Record) : Prop :=
  (k ≠ 0x0000 ∧ k ≠ 0xFFFF) ∧ s.lookup k = some (i, r)

/-- R7: the guard lets a request of port `p` pass. -/
abbrev Permitted (s : State) (p : PortId) (r : Record) : Prop :=
  r.guard = .isOpen ∨ (r.guard = .holder ∧ r.holder = some p)
    ∨ (r.guard = .supervisor ∧ s.ports[p].privilege = .supervisor)

/-- Fewer serials are in use than the serial counter has counts (R64), as where `DeadlinesSound` holds. -/
abbrev SerialsLeft (s : State) : Prop := s.usedSerials.length < 4294967295

/-- R147, R149: the reply fills the entry reserved for the request, or is discarded where PRST# has freed that entry. -/
def Port.answered (q : Port) (f : RequestFrame) (a : Answer) : Port :=
  q.fill ⟨f.tag, f.code, a.status, a.flags, a.generation, a.payload⟩

/-- The state after a request that is answered and does nothing else (R147): its item has ended, and the next client is
taken (R143). -/
def State.answered (s : State) (p : PortId) (f : RequestFrame) (a : Answer) : State :=
  State.finish { s with ports := s.ports.set p (s.ports[p].answered f a) }

/-- R83: a notice handed to every watcher whose interest includes what `wants` asks. -/
def handed (ports : Vector Port 4) (w : Vector (Option Interest) 4) (wants : Interest → Bool) (n : Notice) :
    Vector Port 4 :=
  Vector.ofFn fun q => if w[q].any wants then ports[q].handNotice n else ports[q]

/-- R84: a device notice handed to every SUPERVISOR port. -/
def handedAll (ports : Vector Port 4) (kinds : DeviceKinds) (g : Option GroupId) : Vector Port 4 :=
  Vector.ofFn fun q => if ports[q].privilege = .supervisor then ports[q].handNotice (.device kinds g) else ports[q]

/-! ### The table's changes -/

/-- R119: a dirty mark on a group record. -/
def Group.dirtied (x : Group) : Group :=
  match x.state with
  | .clean => { x with state := .queued }
  | .queued => x
  | .rewriting _ _ => { x with dirtyAgain := true }
  | .faulted => { x with unpersisted := true }
  | .worn => { x with unpersisted := true }

/-- R119: the dirty mark of a durable record's home; a volatile record makes none (R26). -/
def State.dirtied (s : State) (h : Option HomeId) : State :=
  match h with
  | none => s
  | some h =>
    { s with
      groups := s.groups.set h.group s.groups[h.group].dirtied
      queue := if s.groups[h.group].state = .clean then s.queue ++ [h.group] else s.queue }

/-- R22, R25, R26: a record changed in place, its VALUE watchers told, its group marked dirty and the request
answered, with which its item ends. -/
def State.changed (s : State) (p : PortId) (f : RequestFrame) (i : Slot) (r' : Record) (a : Answer) : State :=
  let ports := handed s.ports r'.watchers Interest.value
    (.record r'.key ⟨true, false, false, false, false⟩ r'.value r'.generation r'.holder)
  State.finish { s.dirtied r'.home with
    slots := s.slots.set i (some r')
    ports := ports.set p (ports[p].answered f a) }

/-- The reply of a value update, R27 to R31. -/
def valueAnswer (st : Status) (v : Word) (gen : Gen) (limit prior : Bool) : Answer :=
  ⟨st, ⟨decide (v = 0), decide (v.toInt < 0), limit, prior⟩, some gen, .value v⟩

/-- R25: an update that leaves the value `v`, changed or unchanged. -/
def State.updated (s : State) (p : PortId) (f : RequestFrame) (i : Slot) (r : Record) (v : Word)
    (limit prior : Bool) : State :=
  if v = r.value then s.answered p f (valueAnswer .ok v r.generation limit prior)
  else s.changed p f i { r with value := v, generation := r.generation + 1 }
    (valueAnswer .ok v (r.generation + 1) limit prior)

/-- R24: within the record's bounds. -/
abbrev Record.holds (r : Record) (x : Int) : Prop := r.floor.toInt ≤ x ∧ x ≤ r.ceiling.toInt

/-- R66: the entry of a serial is gone. -/
def without (ds : List Deadline) (n : Option Serial) : List Deadline := ds.filter fun d => decide (some d.serial ≠ n)

/-- R66: a deadline of `len` ticks, counted from the item's reading (R141), none for 0. -/
def State.deadlined (s : State) (kind : DeadlineKind) (key : Key) (p : PortId) (len : Ticks) : State :=
  if len = 0 then s else s.addDeadline kind key p len

/-- R66: the serial of such a deadline. -/
def State.serialFor (s : State) (len : Ticks) : Option Serial := if len = 0 then none else some s.nextSerial

/-- R51: the lease remaining of a lease just set. -/
def leaseOf (len : Ticks) : Option Ticks := if len = 0 then none else some len

/-- R83: a HOLDER notice of a record with its new holder. -/
def holderNotice (r : Record) (h : Option PortId) : Notice :=
  .record r.key ⟨false, true, false, false, false⟩ r.value r.generation h

/-- R20: a durable record's home is VACATED under its key, and its group marked dirty. -/
def State.vacated (s : State) (r : Record) : State :=
  match r.home with
  | none => s
  | some h => { s.dirtied (some h) with
      homeMap := s.homeMap.set h.group (s.homeMap[h.group].set h.home (.vacated r.key)) }

/-- R20: LIFE watchers are told RETIRED, and each watching port has one watch fewer. -/
def removedPorts (ports : Vector Port 4) (r : Record) : Vector Port 4 :=
  let ports := handed ports r.watchers Interest.life
    (.record r.key ⟨false, false, false, true, false⟩ r.value r.generation none)
  Vector.ofFn fun q =>
    if r.watchers[q].isSome then { ports[q] with watchCount := ports[q].watchCount - 1 } else ports[q]

/-- R20: the removal of the record `r` of slot `i`. -/
def State.removed (s : State) (i : Slot) (r : Record) : State :=
  { s.vacated r with
    slots := s.slots.set i none
    index := s.index.filter fun e => decide (e.key ≠ r.key)
    ports := removedPorts s.ports r }

/-- R52: a parked request of a port has ended with a reply. -/
def Port.ended (q : Port) (r : Reply) : Port := Port.fill { q with parked := q.parked - 1 } r

/-- R55 to R57: the hold on the record `r` of slot `i` ends, and the oldest waiter, if there is one, has it next; a
RETIRING record is removed. -/
def State.passedOn (s : State) (i : Slot) (r : Record) : State :=
  match r.waiters with
  | w :: rest =>
    let s' := { s with deadlines := without (without s.deadlines r.lease) w.wait.serial? }
    { s'.deadlined .lease r.key w.port w.leaseAsked with
      slots := s.slots.set i (some { r with
        holder := some w.port, holdCount := 1, lease := s'.serialFor w.leaseAsked, waiters := rest })
      ports := handed (s.ports.set w.port (s.ports[w.port].ended
          (claimReply w.tag .granted (.hold ⟨some w.port, 1, leaseOf w.leaseAsked, rest.length⟩))))
        r.watchers Interest.holder (holderNotice r (some w.port)) }
  | [] =>
    let s' := { s with
      deadlines := without s.deadlines r.lease
      slots := s.slots.set i (some { r with holder := none, holdCount := 0, lease := none })
      ports := handed s.ports r.watchers Interest.holder (holderNotice r none) }
    if r.state = .retiring then s'.removed i r else s'

/-- R17, R18: what a port has of the RETIRE of a record it waits on. -/
def retiredPort (r : Record) (b : HoldBlock) (q : PortId) (x : Port) : Port :=
  match r.claimOf q with
  | none => x
  | some w => x.ended (claimReply w.tag .retired (.hold b))

/-- R17, R18: the ports after every parked claim of a record has been answered RETIRED. -/
def retiredPorts (ports : Vector Port 4) (r : Record) (b : HoldBlock) : Vector Port 4 :=
  Vector.ofFn fun q => retiredPort r b q ports[q]

/-- R17, R18: the deadline list without the WAIT entries of a record's parked claims. -/
def withoutWaits (ds : List Deadline) (ws : List ParkedClaim) : List Deadline :=
  ds.filter fun d => decide (∀ w ∈ ws, some d.serial ≠ w.wait.serial?)

/-- The slot of a CREATE, R1 and R12: the lowest-numbered FREE one. -/
abbrev LowestFree (s : State) (i : Slot) : Prop := s.slots[i] = none ∧ ∀ j : Slot, j < i → s.slots[j] ≠ none

/-- The order of homes, R11. -/
abbrev homeBefore (a b : HomeId) : Prop := a.group < b.group ∨ (a.group = b.group ∧ a.home < b.home)

/-- R11, second step: a FREE home of a group that is neither FAULTED nor WORN. -/
abbrev Takeable (s : State) (h : HomeId) : Prop :=
  s.home h = .free ∧ s.groups[h.group].state ≠ .faulted ∧ s.groups[h.group].state ≠ .worn

/-- R11: the home that a durable CREATE of `k` takes. -/
abbrev Chosen (s : State) (k : Key) (h : HomeId) : Prop :=
  (s.home h = .vacated k ∧ ∀ h' : HomeId, homeBefore h' h → s.home h' ≠ .vacated k)
    ∨ ((∀ h' : HomeId, s.home h' ≠ .vacated k) ∧ Takeable s h ∧ ∀ h' : HomeId, homeBefore h' h → ¬ Takeable s h')

/-! ### The store's changes -/

/-- A group record's abandoned rewrite (R138): QUEUED again, without its capture and its captured marks. -/
def Group.abandoned (x : Group) : Group :=
  { x with state := .queued, capture := none, dirtyAgain := false
           syncs := x.syncs.map fun w => { w with captured := false } }

/-- The spare bank of a group holds `m` (R106). -/
def State.withSpare (s : State) (g : GroupId) (m : Memory) : Vector Banks 16 :=
  s.banks.set g (s.banks[g].put (spareOf s.groups[g].current) m)

/-- R133, R135: the replies to parked SYNCs of a group, in order, with the home of the record that stands under the
key in the group, be it a new one (log 37), the group's state and its wear count. -/
def SyncReplies (s : State) (g : GroupId) (st : Status) (ws : List ParkedSync) (rs : List Reply) : Prop :=
  List.Forall₂ (fun (w : ParkedSync) (r : Reply) =>
    ∃ h, r = ⟨w.tag, 0x50, st, ⟨false, false, false, false⟩, none, .sync h s.groups[g].state s.groups[g].wear⟩
      ∧ ∀ i x, s.lookup w.key = some (i, x) → x.home.map HomeId.group = some g → h = x.home) ws rs

/-- R135: the ports after parked SYNCs have ended with replies, one after another. -/
def syncsEnded (ports : Vector Port 4) (ws : List ParkedSync) (rs : List Reply) : Vector Port 4 :=
  match ws, rs with
  | w :: ws, r :: rs => syncsEnded (ports.set w.port (ports[w.port].ended r)) ws rs
  | [], _ => ports
  | _, [] => ports

/-- R100: the homes of a group after a commit whose capture noted `noted` VACATED. -/
def State.settled (s : State) (g : GroupId) (noted : List (Fin 16)) : Vector Home 16 :=
  Vector.ofFn fun h =>
    match s.home ⟨g, h⟩ with
    | .vacated k => if h ∈ noted then .free else .vacated k
    | .free => .free
    | .occupied i => .occupied i

/-! ### Lists of rows -/

/-- The rows of a port's requests. -/
def requestRows (p : PortId) : List Instr :=
  [.create p, .find p, .next p, .retire p, .setGuard p, .set p, .setIf p, .add p, .take p, .give p, .bitset p,
   .bitclr p, .claim p, .release p, .renew p, .cancelWait p, .watch p, .unwatch p, .gate p, .sync p, .evict p,
   .clearFault p, .census p, .groupStatus p, .badRequest p]

/-- The rows of the internal events that the Table Engine takes (R141). -/
def eventRows : List Instr :=
  [.leaseExpiry, .waitExpiry, .evictionEvent, .captureEvent, .commitEvent, .commitEventFaulted]

/-- The requests with their codes (R190) that R7 guards: RETIRE and the value updates. -/
def guardedRows (p : PortId) : List (Instr × Byte) :=
  [(.retire p, 0x13), (.set p, 0x20), (.setIf p, 0x21), (.add p, 0x22), (.take p, 0x23), (.give p, 0x24),
   (.bitset p, 0x25), (.bitclr p, 0x26)]

/-- The requests that need a LIVE record, SET-GUARD apart (R150, step 6). -/
def liveRows (p : PortId) : List (Instr × Byte) := guardedRows p ++ [(.claim p, 0x30), (.watch p, 0x40)]

/-- The requests that need an existing record, SET-GUARD apart (R150, step 5). -/
def keyedRows (p : PortId) : List (Instr × Byte) :=
  liveRows p ++ [(.find p, 0x11), (.release p, 0x31), (.renew p, 0x32), (.cancelWait p, 0x33), (.unwatch p, 0x41),
    (.sync p, 0x50)]

/-! ### Transactions -/

/-- R158, R173: a port that takes part in transactions. -/
abbrev Linked (s : State) (p : PortId) : Prop :=
  s.ports[p].prst = false ∧ (s.phase = .running ∨ s.phase = .restoring)

/-- R162, check 2. -/
abbrev LengthGood (bytes : List Byte) : Prop :=
  bytes ≠ [] ∧ 7 ≤ (bytes.getD 0 0).toNat ∧ (bytes.getD 0 0).toNat ≤ 32 ∧ bytes.length = (bytes.getD 0 0).toNat

/-- R162, check 3, and R163. -/
abbrev CrcGood (bytes : List Byte) : Prop :=
  bytes.drop (bytes.length - 2) = bytes16 (crc16 (bytes.take (bytes.length - 2)))

/-- R161: the tag of a frame, the lower four bits of its byte. -/
def tagOf (bytes : List Byte) : Tag := (bytes.getD 2 0).setWidth 4

/-- R162: a SUBMIT that changes the last-submit result alone. -/
def State.judged (s : State) (p : PortId) (x : SubmitResult) : State :=
  { s with ports := s.ports.set p { s.ports[p] with lastSubmit := x, transaction := .none } }

/-- R161: the request frame of a request, with its CRC-16. -/
def RequestFrame.bytes (f : RequestFrame) : List Byte :=
  let body := [BitVec.ofNat 8 (7 + f.operands.length), f.code, f.tag.setWidth 8] ++ bytes16 f.key ++ f.operands
  body ++ bytes16 (crc16 body)

/-! ### Frames -/

/-- R188, R192: a port or a group in one byte, FFh where it is absent. -/
def absentOr {n : Nat} (x : Option (Fin n)) : Byte := (x.map fun k => BitVec.ofNat 8 k.val).getD 0xFF

/-- The statuses and their codes, R191. -/
def statusCodes : List (Status × Byte) :=
  [(.ok, 0x00), (.granted, 0x01), (.synced, 0x02), (.done, 0x03), (.busy, 0x10), (.noKey, 0x11), (.keyExists, 0x12),
   (.tableFull, 0x13), (.storeFull, 0x14), (.range, 0x15), (.stale, 0x16), (.notHolder, 0x17), (.guarded, 0x18),
   (.holdLimit, 0x19), (.parkLimit, 0x1A), (.alreadyWaiting, 0x1B), (.notWaiting, 0x1C), (.retiring, 0x1D),
   (.notDurable, 0x1E), (.notFaulted, 0x1F), (.watchLimit, 0x20), (.notWatching, 0x21), (.privilege, 0x22),
   (.badRequest, 0x23), (.badOperand, 0x24), (.waitExpired, 0x30), (.cancelled, 0x31), (.retired, 0x32),
   (.evicted, 0x33), (.storeFault, 0x34), (.storeWorn, 0x35)]

/-- R191: the home block. -/
def homeBlock : Option HomeId → List Byte
  | none => [0xFF, 0xFF]
  | some h => [BitVec.ofNat 8 h.group.val, BitVec.ofNat 8 h.home.val]

/-- R191: the hold block. -/
def holdBlockBytes (b : HoldBlock) : List Byte :=
  [absentOr b.holder, BitVec.ofNat 8 b.count, if b.lease = none then 0x00 else 0x01] ++ bytes16 (b.lease.getD 0)
    ++ [BitVec.ofNat 8 b.waiters]

/-- R191: the record states. -/
def recordStateCodes : List (ReportedState × Byte) := [(.free, 0x00), (.live, 0x01), (.retiring, 0x02)]

/-- R190: the guards. -/
def guardCodes : List (Guard × Byte) := [(.isOpen, 0x00), (.holder, 0x01), (.supervisor, 0x02), (.fixed, 0x03)]

/-- R190: an interest set in one byte. -/
abbrev InterestByte (i : Interest) (x : Byte) : Prop :=
  x.getLsbD 0 = i.value ∧ x.getLsbD 1 = i.holder ∧ x.getLsbD 2 = i.life ∧ x.toNat < 8

/-- R191: the group states, each with its phase and attempt. -/
def groupStateCodes : List (GroupState × Byte × Byte × Byte) :=
  [(.clean, 0x00, 0x00, 0x00), (.queued, 0x01, 0x00, 0x00), (.faulted, 0x03, 0x00, 0x00), (.worn, 0x04, 0x00, 0x00)]
  ++ [(Attempt.first, (0x01 : Byte)), (.retry, 0x02)].flatMap fun a =>
    [(RewritePhase.captured, (0x01 : Byte)), (.erasing, 0x02), (.suspended, 0x03), (.programming, 0x04),
     (.committing, 0x05)].map fun ph => (.rewriting ph.1 a.1, 0x02, ph.2, a.2)

/-- R191: the waiter ports of a snapshot. -/
def waiterPlaces (ports : List PortId) : List Byte := [absentOr ports[0]?, absentOr ports[1]?, absentOr ports[2]?]

/-- R191: the payload of each reply, byte by byte. -/
def PayloadsLaidOut : Prop :=
  let byte : Nat → Byte := BitVec.ofNat 8
  let half : Nat → List Byte := fun n => bytes16 (BitVec.ofNat 16 n)
  Payload.absent.bytes = []
    ∧ (∀ h, (Payload.home h).bytes = homeBlock h)
    ∧ (∀ x ∈ recordStateCodes, (Payload.recState x.1).bytes = [x.2])
    ∧ (∀ x ∈ guardCodes, (Payload.guard x.1).bytes = [x.2])
    ∧ (∀ h, (Payload.holder h).bytes = [absentOr h])
    ∧ (∀ v, (Payload.value v).bytes = bytes32 v)
    ∧ (∀ b, (Payload.hold b).bytes = holdBlockBytes b)
    ∧ (∀ h n, (Payload.holderCount h n).bytes = [absentOr h, byte n]
        ∧ (Payload.holderWaiters h n).bytes = [absentOr h, byte n])
    ∧ (∀ i v h n, ∃ x, InterestByte i x ∧ (Payload.watch i v h n).bytes = [x] ++ bytes32 v ++ [absentOr h, byte n])
    ∧ (∀ n, (Payload.watchCount n).bytes = [byte n])
    ∧ (Payload.gate .shut).bytes = [0x00] ∧ (Payload.gate .isOpen).bytes = [0x01]
    ∧ (∀ h w, ∀ x ∈ groupStateCodes, (Payload.sync h x.1 w).bytes = homeBlock h ++ [x.2.1] ++ bytes32 w)
    ∧ (∀ r, (Payload.evict r).bytes = [byte r.port.val] ++ half r.holds
        ++ [byte r.claims, byte r.syncs, byte r.watches, byte r.notices])
    ∧ (∀ (g : GroupId) (n : Nat), ∀ x ∈ groupStateCodes,
        (Payload.clearFault g x.1 n).bytes = [byte g.val, x.2.1, byte n])
    ∧ (∀ r, ∃ x : Byte, x.getLsbD 0 = r.suspended ∧ x.getLsbD 1 = r.pfw ∧ x.toNat < 4
        ∧ (Payload.census r).bytes = half r.live ++ half r.retiring ++ half r.freeSlots ++ half r.freeHomes
          ++ half r.occupiedHomes ++ half r.vacatedHomes
          ++ [byte r.queueLength, byte r.clean, byte r.queued, byte r.rewriting, byte r.faulted, byte r.worn, x]
          ++ bytes32 r.time)
    ∧ (∀ r : GroupReport, ∀ y ∈ groupStateCodes, r.state = y.1 →
        ∃ x : Byte, x.getLsbD 0 = r.dirtyAgain ∧ x.getLsbD 1 = r.unpersisted ∧ x.getLsbD 2 = r.restoreLost ∧ x.toNat < 8
          ∧ (Payload.groupStatus r).bytes =
            [byte r.group.val, y.2.1, y.2.2.1, y.2.2.2, if r.captureHeld = true then 0x01 else 0x00,
             match r.current with
             | none => 0x00
             | some .a => 0x01
             | some .b => 0x02] ++ bytes32 r.wear ++ [byte r.suspendCount, x, byte r.syncs]
            ++ [byte r.freeHomes, byte r.occupiedHomes, byte r.vacatedHomes])
    ∧ ∀ x : Snapshot, ∀ st ∈ recordStateCodes, ∀ g ∈ guardCodes, x.state = st.1 → x.guard = g.1 →
        ∃ w : List Byte, (Payload.snapshot x).bytes = bytes16 x.key ++ [st.2] ++ homeBlock x.home ++ [g.2]
            ++ bytes32 x.value ++ bytes32 x.floor ++ bytes32 x.ceiling ++ holdBlockBytes x.hold
            ++ [byte x.waiters.length] ++ waiterPlaces x.waiters ++ w
          ∧ w.length = 4 ∧ ∀ p : PortId, (x.watchers[p] = none → w.getD p.val 0 = 0x00)
            ∧ ∀ i, x.watchers[p] = some i → InterestByte i (w.getD p.val 0)

/-! ### Restore -/

/-- R110, R111: the occupied home image of a home in its group's current bank: its key as read, and its record unless
the image is defective. -/
def State.storedImage (s : State) (h : HomeId) : Option (Key × Option Record) :=
  let a := s.bank h.group .a
  let b := s.bank h.group .b
  match chooseCurrent (judgeBank h.group a) (judgeBank h.group b) (bankWear a) (bankWear b) with
  | none => none
  | some which =>
    let m := s.bank h.group which
    if m.read (5 + 18 * h.home.val) = 0 then none else some (imageKey m h.home, imageRecord m h.group h.home)

/-- R111, R112: restore loads the record `r` from a home: no earlier home's image of the same key is sound. -/
def State.loads (s : State) (h : HomeId) (r : Record) : Prop :=
  s.storedImage h = some (r.key, some r)
    ∧ ∀ h' : HomeId, homeBefore h' h → ∀ r' : Record, s.storedImage h' = some (r.key, some r') → False

/-- R101, R105 and R106: while restoring and serving, no two homes hold one key, no two images of current banks carry
one, and each group's current bank and wear count are those that restore would choose; while the part is unpowered or
held in reset, no two of the images that restore would load from carry one key. -/
def KeysApart (s : State) : Prop :=
  (s.phase = .restoring ∨ s.phase = .running →
    (∀ (h h' : HomeId) (k : Key), s.homeKey h = some k → s.homeKey h' = some k → h = h')
    ∧ (∀ (h h' : HomeId) (k : Key), s.currentKey h = some k → s.currentKey h' = some k → h = h')
    ∧ ∀ g : GroupId,
        s.groups[g].current = chooseCurrent (judgeBank g (s.bank g .a)) (judgeBank g (s.bank g .b))
          (bankWear (s.bank g .a)) (bankWear (s.bank g .b))
        ∧ ∀ which : BankId, s.groups[g].current = some which → bankWear (s.bank g which) = s.groups[g].wear)
    ∧ (s.phase = .off ∨ s.phase = .reset →
      ∀ (h h' : HomeId) (k : Key) (x x' : Option Record),
        s.storedImage h = some (k, x) → s.storedImage h' = some (k, x') → h = h')

/-! ### Eviction -/

/-- R178 to R180: what the eviction of port `v` ends, each in its order: the records it holds and its parked claims, in
ascending key order, and the tags of its parked SYNCs, in the order in which their reply entries were reserved
(log 20). -/
def EvictionEnds (s : State) (v : PortId) (held : List Slot) (claims : List ParkedClaim) (syncs : List Tag) : Prop :=
  (held.Pairwise fun i j => ∀ a ∈ s.slots[i], ∀ b ∈ s.slots[j], a.key < b.key)
    ∧ (∀ i : Slot, i ∈ held ↔ ∃ r ∈ s.slots[i], r.holder = some v)
    ∧ claims.Pairwise (fun a b => a.key < b.key)
    ∧ (∀ w : ParkedClaim, w ∈ claims ↔ w.port = v ∧ ∃ i : Slot, ∃ r ∈ s.slots[i], w ∈ r.waiters)
    ∧ syncs.Perm (s.syncTags v) ∧ (Event.eviction v ∉ s.waiting → syncs.Sublist s.ports[v].reserved)

/-- R179: the holds on the records in `held` end, one after another, and each record is handed on. -/
def State.handedOn (s : State) (held : List Slot) : State :=
  match held with
  | [] => s
  | i :: rest =>
    match s.slots[i] with
    | none => State.handedOn s rest
    | some r => State.handedOn (s.passedOn i r) rest

/-- R180, under EVICT: the replies to the evicted port's parked claims and SYNCs. -/
def evictedReplies (claims : List ParkedClaim) (syncs : List Tag) : List Reply :=
  let noFlags : OutcomeFlags := ⟨false, false, false, false⟩
  claims.map (fun w => ⟨w.tag, 0x30, .evicted, noFlags, none, .absent⟩)
    ++ syncs.map fun t => ⟨t, 0x50, .evicted, noFlags, none, .absent⟩

/-- R178 to R181: the state after the eviction of port `v`, whose holds on `held` have been handed on, whose parked
claims `claims` and parked SYNCs have ended with `replies`, and whose watches and notices are gone. -/
def State.afterEviction (s : State) (v : PortId) (held : List Slot) (claims : List ParkedClaim) (replies : List Reply) :
    State :=
  let s' := s.handedOn held
  { s' with
    slots := Vector.ofFn fun i => s'.slots[i].map fun r => { r with
      waiters := r.waiters.filter fun w => decide (w.port ≠ v), watchers := r.watchers.set v none }
    deadlines := withoutWaits s'.deadlines claims
    groups := Vector.ofFn fun g => { s'.groups[g] with
      syncs := s'.groups[g].syncs.filter fun w => decide (w.port ≠ v) }
    ports := s'.ports.set v { replies.foldl Port.fill s'.ports[v] with
      parked := 0, watchCount := 0, notices := []
      held := s'.ports[v].held.map fun n => { n with evicted := true } } }

/-- R178 to R181: what the eviction of port `v` has made of the table, the sync lists and the port. -/
def Evicted (s t : State) (v : PortId) : Prop :=
  (∀ i : Slot, ∀ r ∈ t.slots[i], r.holder ≠ some v ∧ (∀ w ∈ r.waiters, w.port ≠ v) ∧ r.watchers[v] = none)
    ∧ (∀ i : Slot, ∀ r ∈ s.slots[i], r.holder ≠ some v →
        t.slots[i] = some { r with
          waiters := r.waiters.filter fun w => decide (w.port ≠ v)
          watchers := r.watchers.set v none })
    ∧ (∀ i : Slot, ∀ r ∈ s.slots[i], r.holder = some v → r.waiters = [] → r.state = .live →
        t.slots[i] = some { r with
          holder := none, holdCount := 0, lease := none, watchers := r.watchers.set v none })
    ∧ (∀ i : Slot, ∀ r ∈ s.slots[i], r.holder = some v → r.waiters = [] → r.state = .retiring → t.slots[i] = none)
    ∧ (∀ i : Slot, ∀ r ∈ s.slots[i], r.holder = some v → ∀ w rest, r.waiters = w :: rest →
        ∃ n, t.slots[i] = some { r with
          holder := some w.port, holdCount := 1, lease := n, waiters := rest, watchers := r.watchers.set v none }
          ∧ (n = none ↔ w.leaseAsked = 0))
    ∧ (∀ i : Slot, s.slots[i] = none → t.slots[i] = none)
    ∧ (∀ g : GroupId, t.groups[g].syncs = s.groups[g].syncs.filter fun w => decide (w.port ≠ v))
    ∧ t.ports[v].watchCount = 0 ∧ t.ports[v].notices = [] ∧ t.ports[v].tags = s.ports[v].tags
    ∧ t.ports[v].gate = s.ports[v].gate ∧ t.ports[v].lastSubmit = s.ports[v].lastSubmit

/-! ### Rewrites -/

/-- The active rewrite of group `g` in a phase with its capture (R116). -/
abbrev Rewriting (s : State) (g : GroupId) (ph : RewritePhase) (at' : Attempt) (c : Vector CapturedHome 16) : Prop :=
  s.active = some g ∧ s.groups[g].state = .rewriting ph at' ∧ s.groups[g].capture = some c

/-- The reports by which an erase or a program of a group fails in a phase (R122 to R124): the time limit passes, a
verify fails, or the report comes after the limit. -/
def failureReports (x : Group) (ph : RewritePhase) : List Instr :=
  match ph with
  | .captured => []
  | .erasing => [.eraseTimeout, .eraseDone false] ++ (if 400 < x.ticks then [.eraseDone true] else [])
  | .suspended => []
  | .programming => [.programTimeout, .programmingDone false] ++ (if 20 < x.ticks then [.programmingDone true] else [])
  | .committing =>
    [.commitMarkTimeout, .commitMarkDone false] ++ (if 20 < x.ticks then [.commitMarkDone true] else [])

/-- The group of a PFW# assertion's abandoned rewrite (R138). -/
abbrev Abandoned (s : State) (g : GroupId) : Prop :=
  s.groups[g].state.phase? = some .captured ∨ s.groups[g].state.phase? = some .erasing
    ∨ s.groups[g].state.phase? = some .suspended

/-- R125, step 3: the state of a group after the switch of its rewrite. -/
def Group.switchState (x : Group) : GroupState :=
  if 200000 ≤ (x.wear + 1).toNat then .worn else if x.dirtyAgain then .queued else .clean

/-- R125: a group record after the switch of its rewrite. -/
def Group.switched (x : Group) : Group :=
  { x with
    state := x.switchState
    current := some (spareOf x.current)
    wear := x.wear + 1
    capture := none
    dirtyAgain := false
    unpersisted := x.unpersisted || (x.dirtyAgain && decide (200000 ≤ (x.wear + 1).toNat)) }

/-- A commit mark that has been programmed (R193). -/
def markBytes : List Byte := [0x3C, 0x5A, 0xA5, 0xC3]

end Sys2Proof.Machine
end

