-- ==== Sys2Proof/Certificates/Slice0/Obligations.lean ====
section
/-! DEFINITION. The statements for the provers. OBLIGATIONS.json says what each formalises. -/

open Sys2Proof Sys2Proof.Machine

/-! ### The machine as a whole -/

/-- A step runs the command at the front of the queue on the queue's rest; with no command waiting it answers the state
as it is (log 1, the model's choice). -/
def Obligations.StepRunsTheFrontCommand : Prop :=
  (∀ (c : Instr) (rest : List Instr) (s : State), s.pending = c :: rest → step s = exec c { s with pending := rest })
    ∧ ∀ s : State, s.pending = [] → step s = .next s

/-- No command faults or refuses, and each answers a next state that keeps the commands waiting. That a command which
cannot come about still answers is log 2, that the commands waiting stand is log 1, both the model's choice. -/
def Obligations.EveryCommandAnswersNext : Prop :=
  ∀ (c : Instr) (s : State), ∃ t, exec c s = .next t ∧ t.pending = s.pending

/-- R141 to R147: when the Table Engine is free it takes the client that R143 gives, and reads device time for its item;
an item in progress stays until its own row ends it, or the state is lost; then the engine is free. A row whose item is
not in progress changes nothing (log 2, log 3, the model's choice); that an item's effects come at its row is log 4. -/
def Obligations.EngineTakesTheClientOfR143 : Prop :=
  (∀ s : State, s.phase ≠ .running ∨ s.item ≠ none → s.engaged = s)
    ∧ (∀ (s : State) (e : Event) (rest : List Event), s.phase = .running → s.item = none → s.events = e :: rest →
        s.engaged = { s with events := rest, item := some ⟨.event e, s.time⟩ })
    ∧ (∀ (s : State) (p : PortId) (f : RequestFrame), s.phase = .running → s.item = none → s.events = [] →
        s.ports[p].requests.head? = some f → s.ports[p].reserved.length + s.ports[p].filled.length < 4 →
        (∀ q : PortId, (q - s.pointer - 1).val < (p - s.pointer - 1).val →
          s.ports[q].requests = [] ∨ 4 ≤ s.ports[q].reserved.length + s.ports[q].filled.length) →
        s.engaged = { s with
          pointer := p, item := some ⟨.request p f, s.time⟩
          ports := s.ports.set p { s.ports[p] with
            requests := s.ports[p].requests.tail, reserved := s.ports[p].reserved ++ [f.tag] } })
    ∧ (∀ s : State, s.events = [] →
        (∀ q : PortId, s.ports[q].requests = [] ∨ 4 ≤ s.ports[q].reserved.length + s.ports[q].filled.length) →
        s.engaged = s)
    ∧ (∀ s : State, s.finish = State.engaged { s with item := none })
    ∧ (∀ (c : Instr) (s : State) (p : PortId), c ∈ requestRows p →
        (∀ f, ¬ Serves s (.request p f)) → exec c s = .next s)
    ∧ (∀ (c : Instr) (s : State), c ∈ eventRows → (∀ e, ¬ Serves s (.event e)) → exec c s = .next s)
    ∧ ∀ (c : Instr) (s t : State) (x : Item), s.item = some x → exec c s = .next t →
        t.item = some x ∨ c = .deviceReset ∨ c = .lossOfPower
          ∨ (∃ p f, x.client = .request p f ∧ c ∈ requestRows p) ∨ ∃ e, x.client = .event e ∧ c ∈ eventRows

/-- R4: a record that stays keeps its key, home, floor and ceiling (R2), never goes back to LIVE (R3), and its
generation rises by 1 when its value or guard changes and at no other time. -/
def Obligations.RecordsChangeAsR2ToR4Say : Prop :=
  ∀ (c : Instr) (s t : State), exec c s = .next t → ∀ (i : Slot) (r r' : Record),
    s.slots[i] = some r → t.slots[i] = some r' →
    (r'.key = r.key ∧ r'.home = r.home ∧ r'.floor = r.floor ∧ r'.ceiling = r.ceiling)
      ∧ (r.state = .retiring → r'.state = .retiring)
      ∧ (if r'.value = r.value ∧ r'.guard = r.guard then r'.generation = r.generation
         else r'.generation = r.generation + 1)

/-- R63, R107 and R172 of every command: device time moves only by TICK and by the loss of the state; a group's current
bank is neither erased nor programmed; a privilege changes only when a restore samples the straps. That DEVICE_RESET and
LOSS_OF_POWER leave each privilege as it was is log 7, the model's choice. -/
def Obligations.TimeBanksAndPrivilegesMoveOnlyAsSaid : Prop :=
  ∀ (c : Instr) (s t : State), exec c s = .next t →
    (t.time = s.time ∨ (c = .tick ∧ t.time = s.time + 1) ∨ ((c = .deviceReset ∨ c = .lossOfPower) ∧ t.time = 0))
      ∧ (∀ (g : GroupId) (which : BankId), s.groups[g].current = some which → t.bank g which = s.bank g which)
      ∧ ∀ q : PortId, t.ports[q].privilege = s.ports[q].privilege
          ∨ ∃ v : PortId → Privilege, c = .restore (v 0) (v 1) (v 2) (v 3) ∧ t.ports[q].privilege = v q

/-! ### The invariants -/

/-- R1, R6 and R98: a step keeps the Key Index and the Home Map in agreement with the table. -/
def Obligations.StepKeepsIndexAndHomes : Prop :=
  ∀ s t : State, HeldSound s ∧ IndexSound s ∧ HomesSound s → step s = .next t →
    HeldSound t ∧ IndexSound t ∧ HomesSound t

/-- R2, R41, R44 and R79: a step keeps every record sound. -/
def Obligations.StepKeepsRecordsSound : Prop :=
  ∀ s t : State, RecordsSound s → step s = .next t → RecordsSound t

/-- R64, R65, R69 and R42: a step keeps the deadline list in order, each entry and each expiry event under a serial of
its own, and the entries in agreement with the leases and waits that they run for. -/
def Obligations.StepKeepsDeadlinesSound : Prop :=
  ∀ s t : State, (HeldSound s ∧ IndexSound s ∧ HomesSound s) ∧ RecordsSound s ∧ DeadlinesSound s →
    step s = .next t → (HeldSound t ∧ IndexSound t ∧ HomesSound t) ∧ RecordsSound t ∧ DeadlinesSound t

/-- R43, R50, R134, R146 and R147: a step keeps each port's parked count, and its reserved reply entries, those of its
parked claims and SYNCs and of its request in progress. -/
def Obligations.StepKeepsParkedSound : Prop :=
  ∀ s t : State, (HeldSound s ∧ IndexSound s ∧ HomesSound s) ∧ RecordsSound s ∧ PortsSound s ∧ ParkedSound s →
    step s = .next t →
    (HeldSound t ∧ IndexSound t ∧ HomesSound t) ∧ RecordsSound t ∧ PortsSound t ∧ ParkedSound t

/-- R43, R79, R86, R89, R146, R157 and R165: a step keeps every port within its places, with one notice for a key and
the tags in use those of its outstanding requests; and R143 and R145: while serving, the Table Engine is free only if no
event waits and no head request is eligible. -/
def Obligations.StepKeepsPortsSound : Prop :=
  ∀ s t : State, PortsSound s → step s = .next t → PortsSound t

/-- R108, R116 and R118: a step keeps the rewrite queue, the two rewrites and the group records in agreement, every bank
in its canonical form, and a FAULTED group's spare bank INVALID (R107, R130). -/
def Obligations.StepKeepsTheStoreSound : Prop :=
  ∀ s t : State, HeldSound s ∧ QueueSound s ∧ BanksSound s → step s = .next t →
    HeldSound t ∧ QueueSound t ∧ BanksSound t

/-- R101, R100 and R107: a step keeps the images of current banks and captures in agreement with the homes. -/
def Obligations.StepKeepsImagesSound : Prop :=
  ∀ s t : State, (HeldSound s ∧ IndexSound s ∧ HomesSound s) ∧ (QueueSound s ∧ BanksSound s) ∧ ImagesSound s →
    step s = .next t → ImagesSound t

/-- R101, R105 and R106: a step keeps the keys of the homes, and of the images that restore would load from, apart. -/
def Obligations.StepKeepsKeysApart : Prop :=
  ∀ s t : State, (HeldSound s ∧ IndexSound s ∧ HomesSound s) ∧ (QueueSound s ∧ BanksSound s) ∧ ImagesSound s
      ∧ KeysApart s →
    step s = .next t → KeysApart t

/-- The invariants hold while a device reset is held. The state of the banks, pins and straps there is the model's
choice (logs 5 to 9). -/
def Obligations.ResetMeetsTheInvariants : Prop :=
  (HeldSound State.reset ∧ IndexSound State.reset ∧ HomesSound State.reset) ∧ RecordsSound State.reset
    ∧ DeadlinesSound State.reset ∧ PortsSound State.reset ∧ ParkedSound State.reset
    ∧ (QueueSound State.reset ∧ BanksSound State.reset) ∧ ImagesSound State.reset ∧ KeysApart State.reset

/-! ### Device, pins and timer -/

/-- R1, R78, R95, R116, R155 and R176 for RST# and power-on, and R140 for a loss of power; R105 and R107 for what the
banks keep. The pin levels, the straps as last sampled and the blank group records are the model's (logs 7 to 9). -/
def Obligations.ResetAndLossOfPowerClear : Prop :=
  ∀ (s : State) (c : Instr) (ph : RunState), (c = .deviceReset ∧ ph = .reset) ∨ (c = .lossOfPower ∧ ph = .off) →
    ∃ (banks : Vector Banks 16) (fresh : Nat),
      exec c s = .next
        { pending := s.pending, phase := ph, slots := Vector.replicate 512 none, index := []
          homeMap := Vector.replicate 16 (Vector.replicate 16 .free), events := [], pointer := 3, item := none, time := 0
          deadlines := [], serial := 0
          ports := Vector.ofFn fun q => blankPort s.ports[q].prst s.ports[q].privilege
          groups := Vector.replicate 16 blankGroup, queue := [], active := none, suspended := none
          pauseOrdered := false, banks := banks, pfw := s.pfw, pfwSeen := false, fresh := fresh }
      ∧ (∀ (g : GroupId) (which : BankId),
          which ≠ spareOf s.groups[g].current ∨ (s.active ≠ some g ∧ s.suspended ≠ some g) →
          banks[g].get which = s.bank g which)
      ∧ ∀ g : GroupId, s.active = some g ∨ s.suspended = some g →
          (s.groups[g].state.phase? = some .captured → banks[g] = s.banks[g])
          ∧ (s.groups[g].state.phase? = some .erasing ∨ s.groups[g].state.phase? = some .suspended
              ∨ s.groups[g].state.phase? = some .programming →
              judgeBank g (banks[g].get (spareOf s.groups[g].current)) ≠ .valid)
          ∧ (s.groups[g].state.phase? = some .committing →
              (banks[g].get (spareOf s.groups[g].current)).readBytes 0 297 = (s.spareBank g).readBytes 0 297)

/-- R109, R110 and R172: the straps are sampled and every group record is set from its banks. That a PFW# asserted since
before the restore counts as one asserted during it is log 27, the model's choice (R114). -/
def Obligations.RestoreSetsStrapsAndGroups : Prop :=
  ∀ (s : State) (v : PortId → Privilege), s.phase = .reset →
    ∃ t, exec (.restore (v 0) (v 1) (v 2) (v 3)) s = .next t
      ∧ t = { s with
          phase := .restoring, pfwSeen := s.pfw, slots := t.slots, index := t.index, homeMap := t.homeMap
          groups := t.groups, ports := Vector.ofFn fun q => { s.ports[q] with privilege := v q } }
      ∧ ∀ g : GroupId,
          let a := s.bank g .a
          let b := s.bank g .b
          let c := chooseCurrent (judgeBank g a) (judgeBank g b) (bankWear a) (bankWear b)
          let w : Word := match c with
            | none => 0
            | some which => bankWear (s.bank g which)
          t.groups[g] =
            { state := if 200000 ≤ w.toNat then .worn else .clean, capture := none, dirtyAgain := false
              suspendCount := 0, unpersisted := false, syncs := [], current := c, wear := w
              restoreLost := decide (c = none ∧ ¬ (judgeBank g a = .erased ∧ judgeBank g b = .erased)), ticks := 0 }

/-- R111 and R112: from an empty table, restore loads each sound image whose key no earlier home has given, makes the
home of every other occupied image VACATED under its key, leaves every other home FREE, and loads nothing else. -/
def Obligations.RestoreLoadsTheImages : Prop :=
  ∀ (s t : State) (a b c d : Privilege), s.phase = .reset → HeldSound s → exec (.restore a b c d) s = .next t →
    (∀ (h : HomeId) (r : Record), s.loads h r → ∃ i : Slot, t.lookup r.key = some (i, r) ∧ t.home h = .occupied i)
      ∧ (∀ (h : HomeId) (k : Key) (x : Option Record), s.storedImage h = some (k, x) → (∀ r, ¬ s.loads h r) →
          t.home h = .vacated k)
      ∧ (∀ h : HomeId, s.storedImage h = none → t.home h = .free)
      ∧ ∀ (i : Slot) (r : Record), t.slots[i] = some r → ∃ h, r.home = some h ∧ s.loads h r

/-- R113 and R114: the SUPERVISOR ports are told of each lost group in ascending order and of a PFW# asserted during the
restore (the order of the last is log 27), and serving begins, with an eviction event that waits as the first client
(R155; that the notices go ahead of it is log 34). -/
def Obligations.RestoreEndTellsTheLosses : Prop :=
  ∀ s : State, s.phase = .restoring →
    exec .restoreEnd s = .next
      (let ports := ((List.finRange 16).filter fun g => s.groups[g].restoreLost).foldl
        (fun ports g => handedAll ports ⟨false, false, false, true⟩ (some g)) s.ports
       State.engaged { s with
         phase := .running, pfwSeen := false
         ports := if s.pfwSeen then handedAll ports ⟨false, false, true, false⟩ none else ports })

/-- R173 and R175: PRST# empties the port, whose parked count and watch count stand until the eviction, and raises one
eviction event; while it stays asserted nothing more comes of it, and its deassertion leaves the port as it stands. The
item in progress goes on, also one of the port's own, and a reply for an entry that has been freed is discarded (R149).
The event is not raised while the engine is itself held in reset (log 10). -/
def Obligations.PrstEmptiesThePort : Prop :=
  ∀ (s : State) (p : PortId),
    (s.ports[p].prst = false → exec (.prstAsserted p) s = .next
      (let emptied : State := { s with
         ports := s.ports.set p
          { prst := true, privilege := s.ports[p].privilege, requests := [], reserved := [], filled := [], tags := []
            gate := .shut, lastSubmit := .none, transaction := .none, sdo := [], parked := s.ports[p].parked
            notices := [], held := none, lost := false, lostSince := false, watchCount := s.ports[p].watchCount } }
       if (s.phase = .running ∨ s.phase = .restoring) ∧ Event.eviction p ∉ s.events then
         State.engaged { emptied with events := s.events ++ [.eviction p] }
       else emptied))
      ∧ (s.ports[p].prst = true → exec (.prstAsserted p) s = .next s)
      ∧ exec (.prstDeasserted p) s = .next { s with ports := s.ports.set p { s.ports[p] with prst := false } }
      ∧ ∀ r : Reply, s.ports[p].fill r =
          if r.tag ∈ s.ports[p].reserved then
            { s.ports[p] with reserved := s.ports[p].reserved.erase r.tag, filled := s.ports[p].filled ++ [r] }
          else s.ports[p]

/-- R138 and R139: PFW# abandons the rewrites in phase CAPTURED, ERASING or SUSPENDED, the active rewrite's group ahead
of the suspended one's, and the SUPERVISOR ports are told; an abandoned erase leaves no VALID bank. Before serving
begins the level alone is taken (R114, log 8). That its deassertion changes the level alone, the start of work being
REWRITE_START, is log 15, and that an ordered pause is withdrawn is log 16, both the model's choice. -/
def Obligations.PfwAbandonsAndWarns : Prop :=
  (∀ s : State, s.phase = .running → s.pfw = false → QueueSound s →
    ∃ (banks : Vector Banks 16) (fresh : Nat),
      exec .pfwAsserted s = .next
        { s with
          pfw := true
          groups := Vector.ofFn fun g => if Abandoned s g then s.groups[g].abandoned else s.groups[g]
          queue := (s.active.filter fun g => decide (Abandoned s g)).toList ++ s.suspended.toList ++ s.queue
          active := s.active.filter fun g => decide (¬ Abandoned s g)
          suspended := none, pauseOrdered := false, banks := banks, fresh := fresh
          ports := handedAll s.ports ⟨false, false, true, false⟩ none }
      ∧ (∀ (g : GroupId) (which : BankId), which ≠ spareOf s.groups[g].current ∨ ¬ Abandoned s g
          ∨ s.groups[g].state.phase? = some .captured → banks[g].get which = s.bank g which)
      ∧ ∀ g : GroupId, Abandoned s g → s.groups[g].state.phase? ≠ some .captured →
          judgeBank g (banks[g].get (spareOf s.groups[g].current)) ≠ .valid)
    ∧ (∀ s : State, s.pfw = true → exec .pfwAsserted s = .next s)
    ∧ (∀ s : State, s.pfw = false → s.phase = .restoring →
        exec .pfwAsserted s = .next { s with pfw := true, pfwSeen := true })
    ∧ (∀ s : State, s.pfw = false → s.phase = .reset ∨ s.phase = .off →
        exec .pfwAsserted s = .next { s with pfw := true })
    ∧ ∀ s : State, exec .pfwDeasserted s = .next { s with pfw := false }

/-- R63 and R67: device time advances by 1 and the time of the active erase or phase goes on; entries whose due tick is
reached have fallen due before it (log 11); FALLING_DUE takes the head entry if its due tick is reached; a free engine
takes the event raised (R143). The count of a phase's time in ticks is log 12. -/
def Obligations.TickAndFallingDue : Prop :=
  (∀ s : State, s.phase = .running ∨ s.phase = .restoring →
    exec .tick s = .next { State.engaged { s with
        deadlines := s.deadlines.dropWhile fun d => decide ((s.time - d.due).toNat ≤ 65535)
        events := s.events ++ (s.deadlines.takeWhile fun d => decide ((s.time - d.due).toNat ≤ 65535)).map
          fun d => .expiry d.kind d.key d.port d.serial } with
      time := s.time + 1
      groups := match s.active with
        | none => s.groups
        | some g =>
          if s.groups[g].state.phase? = some .erasing ∨ s.groups[g].state.phase? = some .programming
              ∨ s.groups[g].state.phase? = some .committing then
            s.groups.set g { s.groups[g] with ticks := s.groups[g].ticks + 1 }
          else s.groups })
    ∧ (∀ s : State, s.phase = .off ∨ s.phase = .reset → exec .tick s = .next s)
    ∧ (∀ (s : State) (d : Deadline) (rest : List Deadline), s.deadlines = d :: rest →
        exec .fallingDue s = .next
          (if (s.time - d.due).toNat ≤ 65535 then
            State.engaged { s with
              deadlines := rest, events := s.events ++ [.expiry d.kind d.key d.port d.serial] }
          else s))
    ∧ ∀ s : State, s.deadlines = [] → exec .fallingDue s = .next s

/-- R63 to R67 and R141: a new deadline is due `len` ticks from the item's reading of device time, under a serial that
is not 0 and is not in use; in a list ordered by due tick it stands behind the entries due no later and ahead of those
due later; and where device time has reached its due tick already, its expiry event is raised at once, behind those of
the entries of the list that are due. -/
def Obligations.DeadlineJoinsByDueTick : Prop :=
  ∀ (s : State) (kind : DeadlineKind) (key : Key) (p : PortId) (len : Ticks), SerialsLeft s →
    s.deadlines.Pairwise (fun d e => d.due - s.time ≤ e.due - s.time) →
    let t := s.addDeadline kind key p len
    let due := s.reading + len.setWidth 32
    (∀ x : Item, s.item = some x → s.reading = x.time) ∧ (s.item = none → s.reading = s.time)
      ∧ t.serial ≠ 0 ∧ t.serial ∉ s.usedSerials
      ∧ (len.toNat ≤ (s.time - s.reading).toNat →
          t = { s with
            deadlines := s.deadlines.dropWhile fun d => decide ((s.time - d.due).toNat ≤ 65535)
            events := s.events ++ ((s.deadlines.takeWhile fun d => decide ((s.time - d.due).toNat ≤ 65535)).map
              fun d => .expiry d.kind d.key d.port d.serial) ++ [.expiry kind key p t.serial]
            serial := t.serial })
      ∧ ((s.time - s.reading).toNat < len.toNat → ∃ pre post, s.deadlines = pre ++ post
          ∧ t = { s with deadlines := pre ++ ⟨kind, key, p, due, t.serial⟩ :: post, serial := t.serial }
          ∧ (∀ d ∈ pre, d.due - s.time ≤ due - s.time) ∧ ∀ d ∈ post, due - s.time < d.due - s.time)

/-! ### Transactions and notices -/

/-- R158 to R160, R166, R169 and R189: what each code byte makes of a transaction, the status byte bit by bit, the six
figures of PEEK (taken at the row PEEK: log 33), the one effect of an unknown transaction, and the fill bytes; and R94
and R171: when ATTN# is asserted. -/
def Obligations.TransactionsShowThePort : Prop :=
  (∀ (s : State) (p : PortId), Linked s p →
    (s.ports[p].transaction = .none ∨ s.ports[p].transaction = .begun) →
    ∃ x : Byte,
      exec (.transactionBegin p) s = .next
        { s with ports := s.ports.set p { s.ports[p] with transaction := .begun, sdo := [x] } }
      ∧ (x.getLsbD 7 = true ↔ s.phase = .running) ∧ (x.getLsbD 6 = true ↔ s.ports[p].filled ≠ [])
      ∧ (x.getLsbD 5 = true ↔ s.ports[p].notices ≠ []) ∧ (x.getLsbD 4 = true ↔ s.ports[p].gate = .isOpen)
      ∧ x.getLsbD 3 = s.ports[p].lost ∧ (x.getLsbD 2 = true ↔ s.ports[p].privilege = .supervisor)
      ∧ (x.getLsbD 1 = true ↔ s.ports[p].requests.length = 4) ∧ x.getLsbD 0 = false)
    ∧ (∀ (s : State) (p : PortId), Linked s p → s.ports[p].transaction = .begun →
        ∃ x : Byte,
          exec (.peek p) s = .next
            { s with ports := s.ports.set p { s.ports[p] with
                transaction := .none
                sdo := s.ports[p].sdo ++
                  [BitVec.ofNat 8 s.ports[p].filled.length, BitVec.ofNat 8 s.ports[p].reserved.length,
                   BitVec.ofNat 8 s.ports[p].requests.length, BitVec.ofNat 8 s.ports[p].parked,
                   BitVec.ofNat 8 s.ports[p].notices.length, x] } }
          ∧ (s.ports[p].lastSubmit, x) ∈ ([(.none, 0x00), (.accepted, 0x01), (.notReady, 0x02), (.badLength, 0x03),
              (.badCrc, 0x04), (.tagInUse, 0x05), (.queueFull, 0x06), (.badTransaction, 0x07)]
              : List (SubmitResult × Byte)))
    ∧ (∀ (s : State) (p : PortId) (code : Byte), Linked s p → s.ports[p].transaction = .begun →
        code ∉ [0xA1, 0xA2, 0xA3, 0xA4] →
        exec (.unknownTransaction p code) s = .next (s.judged p .badTransaction))
    ∧ (∀ (p : PortId) (code : Byte) (rest : List Byte),
        transactionCommands p [] = [.transactionBegin p]
        ∧ transactionCommands p (code :: rest) = .transactionBegin p ::
            (if code = 0xA1 then [.submit p rest]
             else if code = 0xA2 then [.fetch p, .fetchRelease p rest.length]
             else if code = 0xA3 then [.fetchNotice p, .fetchNoticeRelease p rest.length]
             else if code = 0xA4 then [.peek p]
             else [.unknownTransaction p code]))
    ∧ (∀ (q : Port) (k : Nat), (∀ x : Byte, q.sdo[k]? = some x → q.driven k = x)
        ∧ (q.sdo.length ≤ k → q.driven k = 0x00))
    ∧ ∀ q : Port, q.attn = true ↔ q.filled ≠ [] ∨ (q.gate = .isOpen ∧ (q.notices ≠ [] ∨ q.lost = true))

/-- R162: the judgment of a SUBMIT frame, the first failing check deciding; a free engine takes an accepted request that
is eligible at once (R143). -/
def Obligations.SubmitJudgesTheFrame : Prop :=
  ∀ (s : State) (p : PortId) (bytes : List Byte), Linked s p → s.ports[p].transaction = .begun →
    exec (.submit p bytes) s = .next (State.engaged
      (if s.phase ≠ .running then s.judged p .notReady
       else if ¬ LengthGood bytes then s.judged p .badLength
       else if ¬ CrcGood bytes then s.judged p .badCrc
       else if tagOf bytes ∈ s.ports[p].tags then s.judged p .tagInUse
       else if 4 ≤ s.ports[p].requests.length then s.judged p .queueFull
       else { s with ports := s.ports.set p { s.ports[p] with
         requests := s.ports[p].requests ++ [{
           code := bytes.getD 1 0, tag := tagOf bytes, key := bytes.getD 3 0 ++ bytes.getD 4 0
           operands := (bytes.drop 5).take (bytes.length - 7) }]
         tags := s.ports[p].tags ++ [tagOf bytes], lastSubmit := .accepted, transaction := .none } }))

/-- R161 and R163: the frame of any request with operands of up to 25 bytes, submitted to a ready port that has room
and does not use its tag, joins the request queue as that very request, which a free engine may take at once (R143). -/
def Obligations.SubmittedFrameIsTheRequest : Prop :=
  ∀ (s : State) (p : PortId) (f : RequestFrame), f.operands.length ≤ 25 → Linked s p → s.phase = .running →
    s.ports[p].transaction = .begun → f.tag ∉ s.ports[p].tags → s.ports[p].requests.length < 4 →
    exec (.submit p f.bytes) s = .next (State.engaged
      { s with ports := s.ports.set p { s.ports[p] with
        requests := s.ports[p].requests ++ [f], tags := s.ports[p].tags ++ [f.tag]
        lastSubmit := .accepted, transaction := .none } })

/-- R167, R191 and R192: FETCH sends the oldest filled reply's frame or the empty marker; a frame clocked out whole
frees the entry and the tag, so that a free engine may take the port's head request (R145), a cut-short one changes
nothing; and how a reply frame, its status, its flags and each payload are laid out. -/
def Obligations.FetchSendsTheOldestReply : Prop :=
  (∀ (s : State) (p : PortId), Linked s p → s.ports[p].transaction = .begun →
    exec (.fetch p) s = .next
      { s with ports := s.ports.set p { s.ports[p] with
        transaction := .fetch s.ports[p].filled.head?
        sdo := s.ports[p].sdo ++ match s.ports[p].filled.head? with
          | none => withCrc16 [0x05, 0x00, 0x00]
          | some r => r.frame } })
    ∧ (∀ (s : State) (p : PortId) (n : Nat), s.ports[p].transaction = .fetch none →
        exec (.fetchRelease p n) s = .next
          (State.engaged { s with ports := s.ports.set p { s.ports[p] with transaction := .none } }))
    ∧ (∀ (s : State) (p : PortId) (n : Nat) (r : Reply), s.ports[p].transaction = .fetch (some r) →
        (n < r.frame.length → exec (.fetchRelease p n) s = .next
          (State.engaged { s with ports := s.ports.set p { s.ports[p] with transaction := .none } }))
        ∧ (r.frame.length ≤ n → exec (.fetchRelease p n) s = .next
          (State.engaged { s with ports := s.ports.set p { s.ports[p] with
              transaction := .none, filled := s.ports[p].filled.tail, tags := s.ports[p].tags.erase r.tag } })))
    ∧ (∀ r : Reply, ∃ status flags : Byte, r.frame = withCrc16
        ([BitVec.ofNat 8 r.frame.length, r.code, r.tag.setWidth 8, status, flags]
          ++ bytes16 (r.generation.getD 0) ++ r.payload.bytes)
        ∧ (r.status, status) ∈ statusCodes
        ∧ flags.getLsbD 0 = r.flags.zero ∧ flags.getLsbD 1 = r.flags.neg ∧ flags.getLsbD 2 = r.flags.limit
        ∧ flags.getLsbD 3 = r.flags.prior ∧ flags.getLsbD 4 = false ∧ flags.getLsbD 5 = false
        ∧ flags.getLsbD 6 = false ∧ flags.getLsbD 7 = r.generation.isSome)
    ∧ PayloadsLaidOut

/-- R89 to R91 and R95: FETCH-NOTICE takes the head notice or sends the empty marker with NOTICE-LOST; at release a
whole frame is delivered, a cut-short notice is put back at the head, merged with a fresh one of its key, and a whole
marker clears NOTICE-LOST unless a notice was dropped since; and R192: the 14 bytes of a notice frame. The group of a
merged device notice is log 19. -/
def Obligations.FetchNoticeTakesAndSettles : Prop :=
  (∀ (s : State) (p : PortId) (n : Notice) (rest : List Notice), Linked s p → s.ports[p].transaction = .begun →
    s.ports[p].notices = n :: rest →
    exec (.fetchNotice p) s = .next
      { s with ports := s.ports.set p { s.ports[p] with
        notices := rest, held := some ⟨n, false⟩, transaction := .notice, sdo := s.ports[p].sdo ++ n.frame } })
    ∧ (∀ (s : State) (p : PortId), Linked s p → s.ports[p].transaction = .begun → s.ports[p].notices = [] →
        exec (.fetchNotice p) s = .next
          { s with ports := s.ports.set p { s.ports[p] with
            transaction := .marker, lostSince := false
            sdo := s.ports[p].sdo ++ withCrc16 [0x05, 0x00, if s.ports[p].lost then 1 else 0] } })
    ∧ (∀ (s : State) (p : PortId) (k : Nat) (n : Notice) (evicted : Bool), s.ports[p].transaction = .notice →
        s.ports[p].held = some ⟨n, evicted⟩ →
        exec (.fetchNoticeRelease p k) s = .next
          { s with ports := s.ports.set p { s.ports[p] with
            transaction := .none, held := none
            notices :=
              if 14 ≤ k ∨ evicted = true then s.ports[p].notices
              else match s.ports[p].notices.find? fun m => m.sameKey n with
                | none => n :: s.ports[p].notices
                | some m => n.merge m :: s.ports[p].notices.filter fun m => !m.sameKey n } })
    ∧ (∀ (s : State) (p : PortId) (k : Nat), s.ports[p].transaction = .marker →
        exec (.fetchNoticeRelease p k) s = .next
          { s with ports := s.ports.set p { s.ports[p] with
            transaction := .none
            lost := s.ports[p].lost && (decide (k < 5) || s.ports[p].lostSince) } })
    ∧ (∀ (key : Key) (kinds : RecordKinds) (v : Word) (gen : Gen) (h : Option PortId), ∃ x : Byte,
        (Notice.record key kinds v gen h).frame = withCrc16
          ([0x0E] ++ bytes16 key ++ [x] ++ bytes32 v ++ bytes16 gen ++ [absentOr h, 0xFF])
        ∧ x.getLsbD 0 = kinds.value ∧ x.getLsbD 1 = kinds.holder ∧ x.getLsbD 2 = kinds.retiring
        ∧ x.getLsbD 3 = kinds.retired ∧ x.getLsbD 4 = kinds.leaseLost ∧ x.getLsbD 5 = false ∧ x.getLsbD 6 = false
        ∧ x.getLsbD 7 = false)
    ∧ ∀ (kinds : DeviceKinds) (g : Option GroupId), ∃ x : Byte,
        (Notice.device kinds g).frame = withCrc16 [0x0E, 0, 0, x, 0, 0, 0, 0, 0, 0, 0xFF, absentOr g]
        ∧ x.getLsbD 0 = kinds.storeFault ∧ x.getLsbD 1 = kinds.storeWorn ∧ x.getLsbD 2 = kinds.powerWarn
        ∧ x.getLsbD 3 = kinds.restoreLost ∧ x.getLsbD 4 = false ∧ x.getLsbD 5 = false ∧ x.getLsbD 6 = false
        ∧ x.getLsbD 7 = false

/-- R86 to R88: a notice merges in place into the one of its key, joins the tail while the queue and the held notice
number fewer than 8, or is dropped with NOTICE-LOST; and what a merged notice carries. -/
def Obligations.NoticeMergesJoinsOrIsLost : Prop :=
  (∀ (q : Port) (n m : Notice) (pre post : List Notice), q.notices = pre ++ m :: post → m.sameKey n = true →
    (∀ x ∈ pre ++ post, x.sameKey n = false) → q.handNotice n = { q with notices := pre ++ m.merge n :: post })
    ∧ (∀ (q : Port) (n : Notice), (∀ x ∈ q.notices, x.sameKey n = false) →
        q.handNotice n =
          if q.notices.length + (if q.held.isSome then 1 else 0) < 8 then { q with notices := q.notices ++ [n] }
          else { q with lost := true, lostSince := true })
    ∧ (∀ (k : Key) (a b : RecordKinds) (v v' : Word) (g g' : Gen) (h h' : Option PortId),
        (Notice.record k a v g h).merge (.record k b v' g' h') = .record k
          ⟨a.value || b.value, a.holder || b.holder, a.retiring || b.retiring, a.retired || b.retired,
           a.leaseLost || b.leaseLost⟩ v' g' h')
    ∧ ∀ (a b : DeviceKinds) (g g' : Option GroupId),
        (Notice.device a g).merge (.device b g') = .device
          ⟨a.storeFault || b.storeFault, a.storeWorn || b.storeWorn, a.powerWarn || b.powerWarn,
           a.restoreLost || b.restoreLost⟩ (if g = g' then g else none)

/-! ### Records -/

/-- R10 to R12: a CREATE that passes its checks makes the record in the lowest-numbered FREE slot and enters its key in
the index; a durable one takes the home of R11 and marks its group dirty. -/
def Obligations.CreateMakesTheRecord : Prop :=
  ∀ (s : State) (p : PortId) (f : RequestFrame) (i : Slot) (g : Guard), Taken s p f 0x10 →
    f.key ≠ 0x0000 → f.key ≠ 0xFFFF → s.lookup f.key = none → f.byteAt 1 = g.byte →
    ((g = .supervisor ∨ g = .fixed) → s.ports[p].privilege = .supervisor) →
    (f.word 2).toInt ≤ (f.word 10).toInt → (f.word 10).toInt ≤ (f.word 6).toInt → LowestFree s i →
    let made : Option HomeId → State := fun h => State.finish
      { s.dirtied h with
        slots := s.slots.set i (some
          { key := f.key, state := .live, home := h, guard := g, value := f.word 10, floor := f.word 2
            ceiling := f.word 6, generation := 0, holder := none, holdCount := 0, lease := none, waiters := []
            watchers := Vector.replicate 4 none })
        index := insertIndex ⟨f.key, i⟩ s.index
        homeMap := match h with
          | none => s.homeMap
          | some h => s.homeMap.set h.group (s.homeMap[h.group].set h.home (.occupied i))
        ports := s.ports.set p (s.ports[p].answered f ⟨.ok, ⟨false, false, false, false⟩, some 0, .home h⟩) }
    (f.byteAt 0 = 0 → exec (.create p) s = .next (made none))
      ∧ ∀ h : HomeId, f.byteAt 0 = 1 → Chosen s f.key h → exec (.create p) s = .next (made (some h))

/-- R9 to R11: a CREATE that fails a check, the first one failing, is answered by that check's status and changes
nothing else. -/
def Obligations.CreateRefusesInOrder : Prop :=
  ∀ (s : State) (p : PortId) (f : RequestFrame), Taken s p f 0x10 →
    let refused : Answer → Prop := fun a => exec (.create p) s = .next (s.answered p f a)
    let privileged := (f.byteAt 1 = 2 ∨ f.byteAt 1 = 3) ∧ s.ports[p].privilege = .operator
    let badKey := f.key = 0x0000 ∨ f.key = 0xFFFF
    let good := (f.byteAt 0 = 0 ∨ f.byteAt 0 = 1) ∧ (f.byteAt 1).toNat ≤ 3 ∧ (f.word 2).toInt ≤ (f.word 6).toInt
      ∧ (f.word 2).toInt ≤ (f.word 10).toInt ∧ (f.word 10).toInt ≤ (f.word 6).toInt
    (privileged → refused (plain .privilege))
      ∧ (¬ privileged → badKey → refused (plain .badOperand))
      ∧ (¬ privileged → ¬ badKey → ∀ i r, s.lookup f.key = some (i, r) →
          refused (answerWith .keyExists (.recState (if r.state = .live then .live else .retiring))))
      ∧ (¬ privileged → ¬ badKey → s.lookup f.key = none → ¬ good → refused (plain .badOperand))
      ∧ (¬ privileged → ¬ badKey → s.lookup f.key = none → good → (∀ i : Slot, s.slots[i] ≠ none) →
          refused (plain .tableFull))
      ∧ (¬ privileged → ¬ badKey → s.lookup f.key = none → good → (∃ i : Slot, s.slots[i] = none) →
          f.byteAt 0 = 1 → (∀ h : HomeId, s.home h ≠ .vacated f.key ∧ ¬ Takeable s h) → refused (plain .storeFull))

/-- R13 to R15: FIND answers with the snapshot of the record of its key, NEXT with that of the record of the smallest
key above its own, and neither changes anything. The lease remaining that the snapshot shows is absent for a record with
no lease, the due tick less the item's reading of device time (R141) while the lease runs, 0 once the due tick is
reached (R13), and 0 for an entry that has left the list (log 30, deduced). -/
def Obligations.FindAndNextReport : Prop :=
  ∀ (s : State) (p : PortId) (f : RequestFrame), IndexSound s →
    let shown : Record → Answer := fun r =>
      ⟨.ok, ⟨false, false, false, false⟩, some r.generation, .snapshot
        { key := r.key, state := if r.state = .live then .live else .retiring, home := r.home, guard := r.guard
          value := r.value, floor := r.floor, ceiling := r.ceiling
          hold := ⟨r.holder, r.holdCount, s.leaseRemaining r, r.waiters.length⟩
          waiters := r.waiters.map ParkedClaim.port, watchers := r.watchers }⟩
    (Taken s p f 0x11 →
        (f.key = 0x0000 ∨ f.key = 0xFFFF → exec (.find p) s = .next (s.answered p f (plain .badOperand)))
        ∧ (f.key ≠ 0x0000 → f.key ≠ 0xFFFF → (∀ i : Slot, ∀ r ∈ s.slots[i], r.key ≠ f.key) →
            exec (.find p) s = .next (s.answered p f (plain .noKey)))
        ∧ ∀ (i : Slot) (r : Record), s.slots[i] = some r → r.key = f.key →
            exec (.find p) s = .next (s.answered p f (shown r)))
      ∧ (Taken s p f 0x12 →
        (f.key = 0xFFFF → exec (.next p) s = .next (s.answered p f (plain .badOperand)))
        ∧ (f.key ≠ 0xFFFF → (∀ i : Slot, ∀ r ∈ s.slots[i], r.key ≤ f.key) →
            exec (.next p) s = .next (s.answered p f (plain .done)))
        ∧ ∀ (i : Slot) (r : Record), s.slots[i] = some r → f.key < r.key →
            (∀ j : Slot, ∀ r' ∈ s.slots[j], f.key < r'.key → r.key ≤ r'.key) →
            exec (.next p) s = .next (s.answered p f (shown r)))
      ∧ ∀ r : Record, (r.lease = none → s.leaseRemaining r = none)
        ∧ ∀ n : Serial, r.lease = some n →
          (∀ d ∈ s.deadlines, d.serial = n → (s.deadlines.map Deadline.serial).Nodup →
            ∃ left : Ticks, s.leaseRemaining r = some left
              ∧ ((s.reading - d.due).toNat ≤ 65535 → left = 0)
              ∧ ((d.due - s.reading).toNat ≤ 65535 → left.toNat = (d.due - s.reading).toNat))
          ∧ ((∀ d ∈ s.deadlines, d.serial ≠ n) → s.leaseRemaining r = some 0)

/-- R16, R17 and R20: a RETIRE of an unheld record, or from its holder, answers every waiter RETIRED and removes the
record at once. The RETIRED replies show the hold after the whole RETIRE (R152; log 21). -/
def Obligations.RetireRemovesTheRecord : Prop :=
  ∀ (s : State) (p : PortId) (f : RequestFrame) (i : Slot) (r : Record), Taken s p f 0x13 → Finds s f.key i r →
    r.state = .live → Permitted s p r → RecordSound r → r.holder = none ∨ r.holder = some p →
    exec (.retire p) s = .next
      (let s' := State.removed
        { s with
          deadlines := withoutWaits (without s.deadlines r.lease) r.waiters
          ports := retiredPorts s.ports r ⟨none, 0, none, 0⟩ } i r
       State.finish { s' with
         ports := s'.ports.set p (s'.ports[p].answered f (answerWith .ok (.recState .free))) })

/-- R16 and R18: a RETIRE of a record that another port holds answers every waiter RETIRED, tells the LIFE watchers and
leaves the record RETIRING. The RETIRED replies show the hold after the whole RETIRE, with no waiter left (R152; log 21,
deduced). -/
def Obligations.RetireDefersToTheHolder : Prop :=
  ∀ (s : State) (p : PortId) (f : RequestFrame) (i : Slot) (r : Record) (h : PortId), Taken s p f 0x13 →
    Finds s f.key i r → r.state = .live → Permitted s p r → RecordSound r → r.holder = some h → h ≠ p →
    exec (.retire p) s = .next
      (let ports := handed (retiredPorts s.ports r ⟨some h, r.holdCount, s.leaseRemaining r, 0⟩) r.watchers
        Interest.life (.record r.key ⟨false, false, true, false, false⟩ r.value r.generation (some h))
       State.finish { s with
         slots := s.slots.set i (some { r with state := .retiring, waiters := [] })
         deadlines := withoutWaits s.deadlines r.waiters
         ports := ports.set p (ports[p].answered f (answerWith .ok (.recState .retiring))) })

/-- R21 and R22: who may set which guard; a changed guard advances the generation, tells the VALUE watchers and marks
the group dirty; an unchanged one does nothing. -/
def Obligations.SetGuardFollowsItsPermissions : Prop :=
  ∀ (s : State) (p : PortId) (f : RequestFrame), Taken s p f 0x14 →
    let privileged := (f.byteAt 0 = 2 ∨ f.byteAt 0 = 3) ∧ s.ports[p].privilege = .operator
    (privileged → exec (.setGuard p) s = .next (s.answered p f (plain .privilege)))
      ∧ (¬ privileged → f.key = 0x0000 ∨ f.key = 0xFFFF →
          exec (.setGuard p) s = .next (s.answered p f (plain .badOperand)))
      ∧ (¬ privileged → f.key ≠ 0x0000 → f.key ≠ 0xFFFF → s.lookup f.key = none →
          exec (.setGuard p) s = .next (s.answered p f (plain .noKey)))
      ∧ (∀ (i : Slot) (r : Record), ¬ privileged → Finds s f.key i r → r.state = .retiring →
          exec (.setGuard p) s = .next (s.answered p f (plain .retiring)))
      ∧ ∀ (i : Slot) (r : Record), ¬ privileged → Finds s f.key i r → r.state = .live →
        (s.ports[p].privilege = .operator → r.guard = .supervisor ∨ r.guard = .fixed →
            exec (.setGuard p) s = .next (s.answered p f (answerWith .guarded (.holder r.holder))))
        ∧ (s.ports[p].privilege = .operator → r.guard = .isOpen ∨ r.guard = .holder → r.holder ≠ some p →
            ¬ (r.holder = none ∧ r.guard = .isOpen) →
            exec (.setGuard p) s = .next (s.answered p f (answerWith .notHolder (.holder r.holder))))
        ∧ (s.ports[p].privilege = .supervisor
            ∨ ((r.guard = .isOpen ∨ r.guard = .holder) ∧ r.holder = some p)
            ∨ (r.guard = .isOpen ∧ r.holder = none) →
          (3 < (f.byteAt 0).toNat → exec (.setGuard p) s = .next (s.answered p f (plain .badOperand)))
          ∧ ∀ g : Guard, f.byteAt 0 = g.byte →
              exec (.setGuard p) s = .next
                (if g = r.guard then
                  s.answered p f ⟨.ok, ⟨false, false, false, false⟩, some r.generation, .guard g⟩
                else s.changed p f i { r with guard := g, generation := r.generation + 1 }
                  ⟨.ok, ⟨false, false, false, false⟩, some (r.generation + 1), .guard g⟩))

/-- R151: a request with a code of no request or the wrong operand length is answered BAD-REQUEST and does nothing
else. -/
def Obligations.BadRequestAnswersBadRequest : Prop :=
  ∀ (s : State) (p : PortId) (f : RequestFrame), Serves s (.request p f) →
    operandLength f.code ≠ some f.operands.length →
    exec (.badRequest p) s = .next
      (s.answered p f ⟨.badRequest, ⟨false, false, false, false⟩, none, .absent⟩)

/-! ### Value updates -/

/-- R32 and R33. -/
def Obligations.SetAndSetIfAssignWithinBounds : Prop :=
  ∀ (s : State) (p : PortId) (f : RequestFrame) (i : Slot) (r : Record), Finds s f.key i r →
    r.state = .live → Permitted s p r →
    (Taken s p f 0x20 → exec (.set p) s = .next
      (if r.holds (f.word 0).toInt then s.updated p f i r (f.word 0) false false
       else s.answered p f (valueAnswer .range r.value r.generation false false)))
    ∧ (Taken s p f 0x21 → exec (.setIf p) s = .next
      (if ¬ r.holds (f.word 0).toInt then s.answered p f (valueAnswer .range r.value r.generation false false)
       else if r.generation ≠ f.half 4 then s.answered p f (valueAnswer .stale r.value r.generation false false)
       else s.updated p f i r (f.word 0) false false))

/-- R34. -/
def Obligations.AddClipsTheExactSum : Prop :=
  ∀ (s : State) (p : PortId) (f : RequestFrame) (i : Slot) (r : Record), Taken s p f 0x22 → Finds s f.key i r →
    r.state = .live → Permitted s p r → r.holds r.value.toInt →
    let sum := r.value.toInt + (f.word 0).toInt
    (sum > r.ceiling.toInt → exec (.add p) s = .next (s.updated p f i r r.ceiling true false))
      ∧ (sum < r.floor.toInt → exec (.add p) s = .next (s.updated p f i r r.floor true false))
      ∧ (r.holds sum → ∃ v : Word, v.toInt = sum ∧ exec (.add p) s = .next (s.updated p f i r v false false))
      ∧ (f.word 0 = 0 →
          exec (.add p) s = .next (s.answered p f (valueAnswer .ok r.value r.generation false false)))

/-- R35 and R36. -/
def Obligations.TakeAndGiveMoveAllOrNothing : Prop :=
  ∀ (s : State) (p : PortId) (f : RequestFrame) (i : Slot) (r : Record), Finds s f.key i r →
    r.state = .live → Permitted s p r → r.holds r.value.toInt →
    let n := (f.word 0).toNat
    (Taken s p f 0x23 →
      (2147483647 < n → exec (.take p) s = .next (s.answered p f (plain .badOperand)))
      ∧ (n ≤ 2147483647 → r.value.toInt - n < r.floor.toInt →
          exec (.take p) s = .next (s.answered p f (valueAnswer .ok r.value r.generation true false)))
      ∧ (n ≤ 2147483647 → r.floor.toInt ≤ r.value.toInt - n →
          ∃ v : Word, v.toInt = r.value.toInt - n ∧ (v = r.value ↔ n = 0)
            ∧ exec (.take p) s = .next (s.updated p f i r v false false)))
      ∧ (Taken s p f 0x24 →
        (2147483647 < n → exec (.give p) s = .next (s.answered p f (plain .badOperand)))
        ∧ (n ≤ 2147483647 → r.ceiling.toInt < r.value.toInt + n →
            exec (.give p) s = .next (s.answered p f (valueAnswer .ok r.value r.generation true false)))
        ∧ (n ≤ 2147483647 → r.value.toInt + n ≤ r.ceiling.toInt →
            ∃ v : Word, v.toInt = r.value.toInt + n ∧ (v = r.value ↔ n = 0)
              ∧ exec (.give p) s = .next (s.updated p f i r v false false)))

/-- R37 and R38, with the PRIOR of R31. -/
def Obligations.BitsetAndBitclrFollowTheMask : Prop :=
  ∀ (s : State) (p : PortId) (f : RequestFrame) (i : Slot) (r : Record), Finds s f.key i r →
    r.state = .live → Permitted s p r → ∀ v : Word,
    ∀ prior : Bool, (prior = true ↔ ∃ k, r.value.getLsbD k = true ∧ (f.word 0).getLsbD k = true) →
    let answer : State := if r.holds v.toInt then s.updated p f i r v false prior
      else s.answered p f (valueAnswer .range r.value r.generation false prior)
    (Taken s p f 0x25 → (∀ k, v.getLsbD k = (r.value.getLsbD k || (f.word 0).getLsbD k)) →
        exec (.bitset p) s = .next answer)
      ∧ (Taken s p f 0x26 → (∀ k, v.getLsbD k = (r.value.getLsbD k && !(f.word 0).getLsbD k)) →
        exec (.bitclr p) s = .next answer)

/-- R5, R7, R19, R23 and R150, steps 4 to 8: what a request that needs an existing record is refused with before its
operands are looked at, and CLAIM with a mode of no meaning (R45); a refusal changes nothing else. -/
def Obligations.KeyedRequestsRefuseInOrder : Prop :=
  ∀ (s : State) (p : PortId) (f : RequestFrame) (c : Instr) (code : Byte), Taken s p f code →
    let refused : Answer → Prop := fun a => exec c s = .next (s.answered p f a)
    ((c, code) ∈ keyedRows p → f.key = 0x0000 ∨ f.key = 0xFFFF → refused (plain .badOperand))
      ∧ ((c, code) ∈ keyedRows p → f.key ≠ 0x0000 → f.key ≠ 0xFFFF → s.lookup f.key = none → refused (plain .noKey))
      ∧ ∀ (i : Slot) (r : Record), Finds s f.key i r →
          ((c, code) ∈ liveRows p → r.state = .retiring → refused (plain .retiring))
          ∧ ((c, code) ∈ guardedRows p → r.state = .live → ¬ Permitted s p r →
              refused (answerWith (if r.guard = .holder then .notHolder else .guarded) (.holder r.holder)))
          ∧ (c = .claim p → code = 0x30 → r.state = .live →
              (f.byteAt 0 = 1 ∧ f.half 1 = 0) ∨ 2 < (f.byteAt 0).toNat → refused (plain .badOperand))

/-! ### Holds and deadlines -/

/-- R45, R46 and R51: a CLAIM of an unheld record is granted, whatever its mode. -/
def Obligations.ClaimOfUnheldRecordIsGranted : Prop :=
  ∀ (s : State) (p : PortId) (f : RequestFrame) (i : Slot) (r : Record), Taken s p f 0x30 → Finds s f.key i r →
    r.state = .live → RecordSound r → r.holder = none → SerialsLeft s →
    f.byteAt 0 = 0 ∨ (f.byteAt 0 = 1 ∧ f.half 1 ≠ 0) ∨ f.byteAt 0 = 2 →
    exec (.claim p) s = .next
      (let ports := handed s.ports r.watchers Interest.holder (holderNotice r (some p))
       State.finish { s.deadlined .lease r.key p (f.half 3) with
         slots := s.slots.set i (some { r with
           holder := some p, holdCount := 1, lease := s.serialFor (f.half 3) })
         ports := ports.set p (ports[p].answered f
           (answerWith .granted (.hold ⟨some p, 1, leaseOf (f.half 3), 0⟩))) })

/-- R47 and R51: a further CLAIM by the holder raises the count, to at most 15, and replaces the lease if it asks one. -/
def Obligations.ClaimByTheHolderRaisesTheCount : Prop :=
  ∀ (s : State) (p : PortId) (f : RequestFrame) (i : Slot) (r : Record), Taken s p f 0x30 → Finds s f.key i r →
    r.state = .live → r.holder = some p → SerialsLeft s →
    f.byteAt 0 = 0 ∨ (f.byteAt 0 = 1 ∧ f.half 1 ≠ 0) ∨ f.byteAt 0 = 2 →
    (15 ≤ r.holdCount → exec (.claim p) s = .next (s.answered p f
        (answerWith .holdLimit (.hold ⟨some p, r.holdCount, s.leaseRemaining r, r.waiters.length⟩))))
      ∧ (r.holdCount < 15 → f.half 3 = 0 → exec (.claim p) s = .next (State.finish
          { s with
            slots := s.slots.set i (some { r with holdCount := r.holdCount + 1 })
            ports := s.ports.set p (s.ports[p].answered f (answerWith .granted
              (.hold ⟨some p, r.holdCount + 1, s.leaseRemaining r, r.waiters.length⟩))) }))
      ∧ (r.holdCount < 15 → f.half 3 ≠ 0 → exec (.claim p) s = .next
          (let s' := { s with deadlines := without s.deadlines r.lease }
           State.finish { s'.addDeadline .lease r.key p (f.half 3) with
             slots := s.slots.set i (some { r with holdCount := r.holdCount + 1, lease := some s'.nextSerial })
             ports := s.ports.set p (s.ports[p].answered f (answerWith .granted
               (.hold ⟨some p, r.holdCount + 1, some (f.half 3), r.waiters.length⟩))) }))

/-- R45 and R48 to R50: a CLAIM of a record that another port holds is answered BUSY, refused, or parked at the tail of
the waiter list with its WAIT deadline, its reply entry staying reserved. -/
def Obligations.ClaimOfHeldRecordWaitsOrIsRefused : Prop :=
  ∀ (s : State) (p : PortId) (f : RequestFrame) (i : Slot) (r : Record) (h : PortId), Taken s p f 0x30 →
    Finds s f.key i r → r.state = .live → r.holder = some h → h ≠ p →
    let refused : Status → Prop := fun st => exec (.claim p) s = .next (s.answered p f
      (answerWith st (.hold ⟨some h, r.holdCount, s.leaseRemaining r, r.waiters.length⟩)))
    let waits := (f.byteAt 0 = 1 ∧ f.half 1 ≠ 0) ∨ f.byteAt 0 = 2
    (f.byteAt 0 = 0 → refused .busy)
      ∧ (waits → (∃ w ∈ r.waiters, w.port = p) → refused .alreadyWaiting)
      ∧ (waits → (∀ w ∈ r.waiters, w.port ≠ p) → 2 ≤ s.ports[p].parked → refused .parkLimit)
      ∧ (waits → (∀ w ∈ r.waiters, w.port ≠ p) → s.ports[p].parked < 2 → exec (.claim p) s = .next
          (State.finish { s.deadlined .wait r.key p (if f.byteAt 0 = 1 then f.half 1 else 0) with
            slots := s.slots.set i (some { r with
              waiters := r.waiters ++ [⟨p, f.tag, r.key, f.half 3,
                if f.byteAt 0 = 1 then .limited (f.half 1) s.nextSerial else .unlimited⟩] })
            ports := s.ports.set p { s.ports[p] with parked := s.ports[p].parked + 1 } }))

/-- R53 to R57, with R20 and R52: a RELEASE that leaves the count at 1 or more lowers it and does nothing else; one with
an option that is neither ONE nor ALL, or from a port that does not hold the record, changes nothing; one that brings the
count to 0 ends the hold, grants the oldest waiter or leaves the record unheld or removes a RETIRING one, and names the
next holder. The reply has no number of parked claims (log 32, the model's choice against R62). -/
def Obligations.ReleaseLowersOrHandsOn : Prop :=
  ∀ (s : State) (p : PortId) (f : RequestFrame) (i : Slot) (r : Record), Taken s p f 0x31 → Finds s f.key i r →
    (1 < (f.byteAt 0).toNat → exec (.release p) s = .next (s.answered p f (plain .badOperand)))
      ∧ (f.byteAt 0 = 0 ∨ f.byteAt 0 = 1 → r.holder ≠ some p →
          exec (.release p) s = .next (s.answered p f (answerWith .notHolder (.holderCount r.holder r.holdCount))))
      ∧ (f.byteAt 0 = 0 → r.holder = some p → 2 ≤ r.holdCount → exec (.release p) s = .next
          (State.finish { s with
            slots := s.slots.set i (some { r with holdCount := r.holdCount - 1 })
            ports := s.ports.set p (s.ports[p].answered f
              (answerWith .ok (.holderCount (some p) (r.holdCount - 1)))) }))
      ∧ (f.byteAt 0 = 1 ∨ (f.byteAt 0 = 0 ∧ r.holdCount = 1) → r.holder = some p → RecordSound r → SerialsLeft s →
          exec (.release p) s = .next
            (let s' := s.passedOn i r
             State.finish { s' with
               ports := s'.ports.set p (s'.ports[p].answered f
                 (answerWith .ok (.holderCount (r.waiters.head?.map ParkedClaim.port) 0))) }))

/-- R70 and R71: a RENEW by the holder replaces or removes the lease; from any other port it is refused. -/
def Obligations.RenewReplacesTheLease : Prop :=
  ∀ (s : State) (p : PortId) (f : RequestFrame) (i : Slot) (r : Record), Taken s p f 0x32 → Finds s f.key i r →
    SerialsLeft s →
    (r.holder ≠ some p →
        exec (.renew p) s = .next (s.answered p f (answerWith .notHolder (.holderCount r.holder r.holdCount))))
      ∧ (r.holder = some p → exec (.renew p) s = .next
          (let s' := { s with deadlines := without s.deadlines r.lease }
           State.finish { s'.deadlined .lease r.key p (f.half 0) with
             slots := s.slots.set i (some { r with lease := s'.serialFor (f.half 0) })
             ports := s.ports.set p (s.ports[p].answered f (answerWith .ok
               (.hold ⟨some p, r.holdCount, leaseOf (f.half 0), r.waiters.length⟩))) }))

/-- R52 and R58: CANCEL-WAIT ends the port's parked claim under CANCELLED, or finds none. -/
def Obligations.CancelWaitEndsTheClaim : Prop :=
  ∀ (s : State) (p : PortId) (f : RequestFrame) (i : Slot) (r : Record), Taken s p f 0x33 → Finds s f.key i r →
    ((∀ w ∈ r.waiters, w.port ≠ p) → exec (.cancelWait p) s = .next (s.answered p f
        (answerWith .notWaiting (.holderWaiters r.holder r.waiters.length))))
      ∧ ∀ w ∈ r.waiters, w.port = p → RecordSound r → (r.lease = none ∨ r.lease ≠ w.wait.serial?) →
          exec (.cancelWait p) s = .next
            (State.finish { s with
              slots := s.slots.set i (some { r with waiters := r.waiters.erase w })
              deadlines := without s.deadlines w.wait.serial?
              ports := s.ports.set p ((s.ports[p].ended (claimReply w.tag .cancelled
                (.hold ⟨r.holder, r.holdCount, s.leaseRemaining r, (r.waiters.erase w).length⟩))).answered f
                (answerWith .ok (.holderWaiters r.holder (r.waiters.erase w).length))) })

/-- R68 and R72: a LEASE expiry event of the hold that stands ends it, tells the former holder LEASE-LOST with the holder
that the handoff leaves (its place before the handoff: log 25), and hands the record on; a stale one does nothing. -/
def Obligations.LeaseExpiryEndsTheHold : Prop :=
  ∀ (s : State) (key : Key) (p : PortId) (n : Serial), Serves s (.event (.expiry .lease key p n)) →
    ((∀ i r, s.lookup key = some (i, r) → r.holder ≠ some p ∨ r.lease ≠ some n) →
        exec .leaseExpiry s = .next s.finish)
      ∧ ∀ i r, s.lookup key = some (i, r) → r.holder = some p → r.lease = some n → RecordSound r → SerialsLeft s →
          exec .leaseExpiry s = .next (State.passedOn
            { s with
              ports := s.ports.set p (s.ports[p].handNotice
                (.record r.key ⟨false, false, false, false, true⟩ r.value r.generation
                  (r.waiters.head?.map ParkedClaim.port))) } i r).finish

/-- R52, R68 and R73: a WAIT expiry event of the parked claim that stands ends it under WAIT-EXPIRED; a stale one does
nothing. That the reply shows a lease remaining of 0 where the holder's own lease event waits is log 30 (deduced). -/
def Obligations.WaitExpiryEndsTheClaim : Prop :=
  ∀ (s : State) (key : Key) (p : PortId) (n : Serial), Serves s (.event (.expiry .wait key p n)) →
    ((∀ i r, s.lookup key = some (i, r) → ∀ w ∈ r.waiters, w.port = p → w.wait.serial? ≠ some n) →
        exec .waitExpiry s = .next s.finish)
      ∧ ∀ i r, s.lookup key = some (i, r) → ∀ w ∈ r.waiters, w.port = p → w.wait.serial? = some n →
          RecordSound r → r.lease ≠ some n →
          exec .waitExpiry s = .next
            (State.finish { s with
              slots := s.slots.set i (some { r with waiters := r.waiters.erase w })
              deadlines := without s.deadlines (some n)
              ports := s.ports.set p (s.ports[p].ended (claimReply w.tag .waitExpired
                (.hold ⟨r.holder, r.holdCount, s.leaseRemaining r, (r.waiters.erase w).length⟩))) })

/-! ### Watches and the gate -/

/-- R80 and R81: WATCH sets the port's interest, within its 64 watches; UNWATCH removes its watch. -/
def Obligations.WatchAndUnwatch : Prop :=
  ∀ (s : State) (p : PortId) (f : RequestFrame) (i : Slot) (r : Record), Finds s f.key i r →
    let n := s.ports[p].watchCount
    (Taken s p f 0x40 →
      (r.state = .live → f.byteAt 0 = 0 ∨ 8 ≤ (f.byteAt 0).toNat →
          exec (.watch p) s = .next (s.answered p f (plain .badOperand)))
      ∧ (r.state = .live → f.byteAt 0 ≠ 0 → (f.byteAt 0).toNat < 8 →
          let x : Interest := ⟨(f.byteAt 0).getLsbD 0, (f.byteAt 0).getLsbD 1, (f.byteAt 0).getLsbD 2⟩
          let served : Nat → State := fun m => State.finish
            { s with
              slots := s.slots.set i (some { r with watchers := r.watchers.set p (some x) })
              ports := s.ports.set p (Port.answered { s.ports[p] with watchCount := m } f
                ⟨.ok, ⟨false, false, false, false⟩, some r.generation, .watch x r.value r.holder m⟩) }
          (r.watchers[p] ≠ none → exec (.watch p) s = .next (served n))
          ∧ (r.watchers[p] = none → n < 64 → exec (.watch p) s = .next (served (n + 1)))
          ∧ (r.watchers[p] = none → 64 ≤ n →
              exec (.watch p) s = .next (s.answered p f (answerWith .watchLimit (.watchCount n))))))
      ∧ (Taken s p f 0x41 →
        (r.watchers[p] = none →
          exec (.unwatch p) s = .next (s.answered p f (answerWith .notWatching (.watchCount n))))
        ∧ (r.watchers[p] ≠ none → exec (.unwatch p) s = .next
            (State.finish { s with
              slots := s.slots.set i (some { r with watchers := r.watchers.set p none })
              ports := s.ports.set p (Port.answered { s.ports[p] with watchCount := n - 1 } f
                (answerWith .ok (.watchCount (n - 1)))) })))

/-- R93: GATE sets the port's gate. Where PRST# has freed the request's reply entry since the engine took it, the gate
stays as the reset of the port left it (log 36, the model's choice). -/
def Obligations.GateSetsThePortsGate : Prop :=
  ∀ (s : State) (p : PortId) (f : RequestFrame), Taken s p f 0x42 →
    (∀ g : Gate, f.byteAt 0 = g.byte →
        (f.tag ∈ s.ports[p].reserved → exec (.gate p) s = .next (State.finish { s with
          ports := s.ports.set p (Port.answered { s.ports[p] with gate := g } f (answerWith .ok (.gate g))) }))
        ∧ (f.tag ∉ s.ports[p].reserved → exec (.gate p) s = .next s.finish))
      ∧ (1 < (f.byteAt 0).toNat → exec (.gate p) s = .next (s.answered p f (plain .badOperand)))

/-! ### Supervision and SYNC -/

/-- R133, R134 and R136: the state of the group decides a SYNC: answered at once, refused, or parked, captured or not; a
QUEUED group is promoted, and a pause ordered of the active erase if none of its SYNCs is captured, no rewrite is
suspended and it has been suspended fewer than 4 times. -/
def Obligations.SyncFollowsTheGroupState : Prop :=
  ∀ (s : State) (p : PortId) (f : RequestFrame) (i : Slot) (r : Record), Taken s p f 0x50 → Finds s f.key i r →
    (r.home = none → exec (.sync p) s = .next (s.answered p f (plain .notDurable)))
      ∧ ∀ h : HomeId, r.home = some h →
        let x := s.groups[h.group]
        let answered : Status → Prop := fun st =>
          exec (.sync p) s = .next (s.answered p f (answerWith st (.sync (some h) x.state x.wear)))
        let parks : Bool → State → Prop := fun captured s' =>
          if 2 ≤ s.ports[p].parked then answered .parkLimit
          else exec (.sync p) s = .next
            (State.finish { s' with
              groups := s.groups.set h.group { x with syncs := x.syncs ++ [⟨p, f.tag, f.key, captured⟩] }
              ports := s.ports.set p { s.ports[p] with parked := s.ports[p].parked + 1 } })
        (x.state = .clean → answered .synced) ∧ (x.state = .faulted → answered .storeFault)
          ∧ (x.state = .worn → answered .storeWorn)
          ∧ (x.state.phase? ≠ none → parks (!x.dirtyAgain) s)
          ∧ (x.state = .queued →
              ∃ pause : Bool, parks false { s with queue := h.group :: s.queue.erase h.group, pauseOrdered := pause }
                ∧ (pause = true ↔ s.pauseOrdered = true ∨ ∃ a : GroupId, s.active = some a
                    ∧ s.groups[a].state.phase? = some .erasing ∧ (∀ w ∈ s.groups[a].syncs, w.captured = false)
                    ∧ s.suspended = none ∧ s.groups[a].suspendCount < 4))

/-- R177 to R182: the eviction of a port by EVICT and by its eviction event. First each hold ends and is handed on, in
ascending key order; then the parked claims and SYNCs end, with EVICTED replies under EVICT; then the watches and notices
go; and EVICT reports the five counts. The order of the replies to parked SYNCs is log 20. -/
def Obligations.EvictionEndsAllOfThePort : Prop :=
  (∀ (s : State) (p v : PortId) (f : RequestFrame), Taken s p f 0x60 → s.ports[p].privilege = .supervisor →
    f.byteAt 0 = BitVec.ofNat 8 v.val → IndexSound s → RecordsSound s → DeadlinesSound s → PortsSound s →
    ParkedSound s →
    ∃ t held claims syncs, EvictionEnds s v held claims syncs ∧ exec (.evict p) s = .next t.finish ∧ Evicted s t v
      ∧ t =
        (let q := (s.handedOn held).ports[v]
         let t' := s.afterEviction v held claims (evictedReplies claims syncs)
         { t' with ports := t'.ports.set p (t'.ports[p].fill
           ⟨f.tag, f.code, .ok, ⟨false, false, false, false⟩, none, .evict
             { port := v, holds := held.length, claims := claims.length, syncs := syncs.length
               watches := q.watchCount, notices := q.notices.length }⟩) })
      ∧ t = { s with
          slots := t.slots, index := t.index, homeMap := t.homeMap, groups := t.groups, queue := t.queue
          ports := t.ports, events := t.events, deadlines := t.deadlines, serial := t.serial })
    ∧ (∀ (s : State) (p : PortId) (f : RequestFrame), Taken s p f 0x60 →
        (s.ports[p].privilege = .operator → exec (.evict p) s = .next (s.answered p f (plain .privilege)))
        ∧ (s.ports[p].privilege = .supervisor → 3 < (f.byteAt 0).toNat →
            exec (.evict p) s = .next (s.answered p f (plain .badOperand))))
    ∧ ∀ (s : State) (v : PortId), Serves s (.event (.eviction v)) → IndexSound s → RecordsSound s →
        DeadlinesSound s → PortsSound s → ParkedSound s →
        ∃ t held claims syncs, EvictionEnds s v held claims syncs ∧ exec .evictionEvent s = .next t.finish
          ∧ Evicted s t v ∧ t = s.afterEviction v held claims []
          ∧ t = { s with
              slots := t.slots, index := t.index, homeMap := t.homeMap, groups := t.groups, queue := t.queue
              ports := t.ports, events := t.events, deadlines := t.deadlines, serial := t.serial }
          ∧ t.ports[v].requests = s.ports[v].requests ∧ t.ports[v].filled = s.ports[v].filled

/-- R131 and R183. -/
def Obligations.ClearFaultQueuesTheGroup : Prop :=
  ∀ (s : State) (p : PortId) (f : RequestFrame), Taken s p f 0x61 →
    (s.ports[p].privilege = .operator → exec (.clearFault p) s = .next (s.answered p f (plain .privilege)))
      ∧ (s.ports[p].privilege = .supervisor → 15 < (f.byteAt 0).toNat →
          exec (.clearFault p) s = .next (s.answered p f (plain .badOperand)))
      ∧ ∀ g : GroupId, s.ports[p].privilege = .supervisor → f.byteAt 0 = BitVec.ofNat 8 g.val →
          (s.groups[g].state ≠ .faulted → exec (.clearFault p) s = .next (s.answered p f
              (answerWith .notFaulted (.clearFault g s.groups[g].state s.queue.length))))
          ∧ (s.groups[g].state = .faulted → exec (.clearFault p) s = .next (State.finish
              { s with
                groups := s.groups.set g { s.groups[g] with state := .queued, unpersisted := false }
                queue := s.queue ++ [g]
                ports := s.ports.set p (s.ports[p].answered f
                  (answerWith .ok (.clearFault g .queued (s.queue.length + 1)))) }))

/-- R184 and R185: the figures of CENSUS and GROUP-STATUS, that the three counts of records and slots add up to 512, the
home counts to 256 and the group counts to 16, and that neither request changes anything. CENSUS shows the item's reading
of device time (R141), and all else as it stands at the row (log 4). -/
def Obligations.CensusAndGroupStatusReport : Prop :=
  ∀ (s : State) (p : PortId) (f : RequestFrame),
    let homes : GroupId → (Home → Bool) → Nat := fun g which =>
      (List.finRange 16).countP fun h => which (s.home ⟨g, h⟩)
    (Taken s p f 0x62 →
      ∃ x : CensusReport, exec (.census p) s = .next (s.answered p f (answerWith .ok (.census x)))
        ∧ x.live = (List.finRange 512).countP (fun i => s.slots[i].any fun r => decide (r.state = .live))
        ∧ x.retiring = (List.finRange 512).countP (fun i => s.slots[i].any fun r => decide (r.state = .retiring))
        ∧ x.freeSlots = (List.finRange 512).countP (fun i => s.slots[i].isNone)
        ∧ x.live + x.retiring + x.freeSlots = 512
        ∧ x.freeHomes = ((List.finRange 16).map fun g => homes g fun h => decide (h = .free)).sum
        ∧ x.occupiedHomes = ((List.finRange 16).map fun g => homes g fun h => h.slot?.isSome).sum
        ∧ x.freeHomes + x.occupiedHomes + x.vacatedHomes = 256
        ∧ x.queueLength = s.queue.length
        ∧ x.clean = (List.finRange 16).countP (fun g => decide (s.groups[g].state = .clean))
        ∧ x.queued = (List.finRange 16).countP (fun g => decide (s.groups[g].state = .queued))
        ∧ x.faulted = (List.finRange 16).countP (fun g => decide (s.groups[g].state = .faulted))
        ∧ x.worn = (List.finRange 16).countP (fun g => decide (s.groups[g].state = .worn))
        ∧ x.clean + x.queued + x.rewriting + x.faulted + x.worn = 16
        ∧ x.suspended = s.suspended.isSome ∧ x.pfw = s.pfw ∧ x.time = s.reading)
      ∧ (Taken s p f 0x63 →
        (15 < (f.byteAt 0).toNat → exec (.groupStatus p) s = .next (s.answered p f (plain .badOperand)))
        ∧ ∀ g : GroupId, f.byteAt 0 = BitVec.ofNat 8 g.val →
            exec (.groupStatus p) s = .next (s.answered p f (answerWith .ok (.groupStatus
              { group := g, state := s.groups[g].state, captureHeld := s.groups[g].capture.isSome
                current := s.groups[g].current, wear := s.groups[g].wear, suspendCount := s.groups[g].suspendCount
                dirtyAgain := s.groups[g].dirtyAgain, unpersisted := s.groups[g].unpersisted
                restoreLost := s.groups[g].restoreLost, syncs := s.groups[g].syncs.length
                freeHomes := homes g fun h => decide (h = .free), occupiedHomes := homes g fun h => h.slot?.isSome
                vacatedHomes := homes g fun h => decide (h ≠ .free) && h.slot?.isNone }))))

/-! ### Rewrites -/

/-- R120, R121 and R137: REWRITE_START resumes the suspended rewrite or starts the head group, unless a rewrite is active
or PFW# is asserted; the capture event copies the group's homes and the rewrite goes on to ERASING. That starting is a
row of its own is log 15, the time counted from 0 in ticks log 12. -/
def Obligations.RewriteStartsAndCaptures : Prop :=
  (∀ s : State, s.phase = .running → s.pfw = false → s.active = none →
    (∀ (g : GroupId) (at' : Attempt), s.suspended = some g → s.groups[g].state = .rewriting .suspended at' →
        exec .rewriteStart s = .next
          { s with
            groups := s.groups.set g { s.groups[g] with state := .rewriting .erasing at' }
            active := some g, suspended := none })
      ∧ (∀ (g : GroupId) (rest : List GroupId), s.suspended = none → s.queue = g :: rest →
          exec .rewriteStart s = .next (State.engaged
            { s with
              groups := s.groups.set g { s.groups[g] with
                state := .rewriting .captured .first, capture := none, suspendCount := 0, ticks := 0 }
              queue := rest, active := some g, events := s.events ++ [.capture g] }))
      ∧ (s.suspended = none → s.queue = [] → exec .rewriteStart s = .next s))
    ∧ (∀ s : State, s.phase ≠ .running ∨ s.pfw = true ∨ s.active ≠ none → exec .rewriteStart s = .next s)
    ∧ ∀ (s : State) (g : GroupId), Serves s (.event (.capture g)) →
        (∀ at' : Attempt, s.groups[g].state = .rewriting .captured at' → s.groups[g].capture = none →
          ∃ cap : Vector CapturedHome 16,
            (∀ h : Fin 16, (s.home ⟨g, h⟩ = .free → cap[h] = .free)
              ∧ (∀ k, s.home ⟨g, h⟩ = .vacated k → cap[h] = .vacated)
              ∧ ∀ i r, s.home ⟨g, h⟩ = .occupied i → s.slots[i] = some r →
                  cap[h] = .occupied ⟨r.key, r.value, r.floor, r.ceiling, r.guard, r.generation⟩)
            ∧ exec .captureEvent s = .next (State.finish
                { s with
                  groups := s.groups.set g { s.groups[g] with
                    state := .rewriting .erasing at', capture := some cap, dirtyAgain := false
                    syncs := s.groups[g].syncs.map fun w => { w with captured := true }, ticks := 0 } }))
        ∧ (s.groups[g].state.phase? ≠ some .captured ∨ s.groups[g].capture ≠ none →
            exec .captureEvent s = .next s.finish)

/-- R122 to R125: an erase done in time leaves the spare bank erased and the rewrite PROGRAMMING; programming done
leaves it holding the image of the capture under wear count plus 1, its commit mark erased, and the rewrite COMMITTING;
the commit mark done completes the bank, and the rewrite switches. The times counted in ticks are log 12, the order in
which the bits of the check word stand in the image log 18 (presumed), and the homes that the commit event carries log 17
(deduced). -/
def Obligations.RewriteErasesProgramsAndSwitches : Prop :=
  ∀ (s : State) (g : GroupId) (at' : Attempt) (cap : Vector CapturedHome 16),
    let x := s.groups[g]
    (Rewriting s g .erasing at' cap → x.ticks ≤ 400 →
      exec (.eraseDone true) s = .next
        { s with
          banks := s.withSpare g [], pauseOrdered := false
          groups := s.groups.set g { x with state := .rewriting .programming at', ticks := 0 } })
      ∧ (Rewriting s g .programming at' cap → x.ticks ≤ 20 →
        ∃ m : Memory, exec (.programmingDone true) s = .next
            { s with
              banks := s.withSpare g m
              groups := s.groups.set g { x with state := .rewriting .committing at', ticks := 0 } }
          ∧ m.readBytes 0 297 = imageBytes g (x.wear + 1) cap ∧ (∀ o, 297 ≤ o → m.read o = 0xFF) ∧ m.wf = true)
      ∧ (Rewriting s g .committing at' cap → x.ticks ≤ 20 → BanksSound s →
        ∃ m : Memory, exec (.commitMarkDone true) s = .next (State.startWork (State.engaged
            { s with
              banks := s.withSpare g m, active := none, groups := s.groups.set g x.switched
              queue := if x.switchState = .queued then
                  if ∃ w ∈ x.syncs, w.captured = false then g :: s.queue else s.queue ++ [g]
                else s.queue
              events := s.events ++
                [.committed g ((List.finRange 16).filter fun h => decide (cap[h] = .vacated))] }))
          ∧ m.readBytes 0 297 = (s.spareBank g).readBytes 0 297 ∧ m.readBytes 297 4 = markBytes)

/-- R127, R128 and R138, with R107 and R130: a failure of an erase or a program leaves no VALID spare bank and is served
by the one retry, by abandonment where PFW# is asserted, or, on attempt 2, by the group becoming FAULTED with an INVALID
spare bank. That a DONE report past its limit in ticks is a failure is log 12, and that an ordered pause is withdrawn is
log 16, both the model's choice; the bank's bytes are free (log 13). -/
def Obligations.RewriteFailureRetriesOrFaults : Prop :=
  ∀ (s : State) (g : GroupId) (ph : RewritePhase) (at' : Attempt) (cap : Vector CapturedHome 16) (report : Instr),
    Rewriting s g ph at' cap → report ∈ failureReports s.groups[g] ph → BanksSound s →
    ∃ (m : Memory) (fresh : Nat), judgeBank g m ≠ .valid ∧ (at' = .retry → judgeBank g m = .invalid)
      ∧ exec report s = .next
      (let x := s.groups[g]
       let s' := { s with banks := s.withSpare g m, fresh := fresh, pauseOrdered := false }
       match at' with
       | .first =>
         if s.pfw then { s' with active := none, groups := s.groups.set g x.abandoned, queue := g :: s.queue }
         else { s' with groups := s.groups.set g { x with state := .rewriting .erasing .retry, ticks := 0 } }
       | .retry =>
         State.startWork (State.engaged { s' with
           active := none
           groups := s.groups.set g { x with
             state := .faulted, capture := none, dirtyAgain := false, unpersisted := true }
           events := s.events ++ [.faulted g] }))

/-- R136: a pause that takes effect suspends the active erase and starts the head group. -/
def Obligations.PauseSuspendsAndStartsTheHead : Prop :=
  ∀ (s : State) (g h : GroupId) (at' : Attempt) (cap : Vector CapturedHome 16) (rest : List GroupId),
    Rewriting s g .erasing at' cap → s.pfw = false →
    (s.pauseOrdered = true → s.queue = h :: rest → h ≠ g →
      exec .erasePaused s = .next (State.engaged
        { s with
          groups := (s.groups.set g { s.groups[g] with
            state := .rewriting .suspended at', suspendCount := s.groups[g].suspendCount + 1 }).set h
            { s.groups[h] with state := .rewriting .captured .first, capture := none, suspendCount := 0, ticks := 0 }
          active := some h, suspended := some g, pauseOrdered := false, queue := rest
          events := s.events ++ [.capture h] }))
      ∧ (s.pauseOrdered = false → exec .erasePaused s = .next s)

/-- R100, R126 and R129: the commit events settle homes, answer the group's parked SYNCs in order and tell the
SUPERVISOR ports. The home carried for a record that has gone is free (log 14), that of a new record under its key in
the group is the new one's (log 37), and a SYNC in progress at the switch may stand marked captured in the list by then
(log 35), each the model's choice. -/
def Obligations.CommitEventsAnswerTheSyncs : Prop :=
  (∀ (s : State) (g : GroupId) (noted : List (Fin 16)), Serves s (.event (.committed g noted)) →
    let x := s.groups[g]
    let s' := { s with homeMap := s.homeMap.set g (s.settled g noted) }
    let done := x.syncs.filter ParkedSync.captured
    let rest := x.syncs.filter fun w => !w.captured
    (x.state ≠ .worn → ∃ (rs : List Reply) (fresh : Nat), SyncReplies s g .synced done rs
        ∧ exec .commitEvent s = .next (State.finish
          { s' with
            groups := s.groups.set g { x with syncs := rest }
            ports := syncsEnded s.ports done rs, fresh := fresh }))
      ∧ (x.state = .worn → ∃ (rs rs' : List Reply) (fresh : Nat), SyncReplies s g .synced done rs
          ∧ SyncReplies s g .storeWorn rest rs'
          ∧ exec .commitEvent s = .next (State.finish
            { s' with
              groups := s.groups.set g { x with syncs := [] }
              ports := handedAll (syncsEnded (syncsEnded s.ports done rs) rest rs') ⟨false, true, false, false⟩
                (some g)
              fresh := fresh })))
    ∧ ∀ (s : State) (g : GroupId), Serves s (.event (.faulted g)) →
        ∃ (rs : List Reply) (fresh : Nat), SyncReplies s g .storeFault s.groups[g].syncs rs
          ∧ exec .commitEventFaulted s = .next (State.finish
            { s with
              groups := s.groups.set g { s.groups[g] with syncs := [] }
              ports := handedAll (syncsEnded s.ports s.groups[g].syncs rs) ⟨true, false, false, false⟩ (some g)
              fresh := fresh })

/-- R102 to R105, R111 and R193: a bank that holds the image of a capture and its commit mark is judged VALID, carries
the wear count, and gives back each occupied home's record as captured. -/
def Obligations.CommittedImageComesBack : Prop :=
  ∀ (g : GroupId) (wear : Word) (cap : Vector CapturedHome 16) (m : Memory),
    m.readBytes 0 297 = imageBytes g wear cap → m.readBytes 297 4 = markBytes →
    judgeBank g m = .valid ∧ bankWear m = wear
      ∧ ∀ h : Fin 16,
        (∀ x : HomeImage, cap[h] = .occupied x → imageOccupied m h = true ∧ imageKey m h = x.key
          ∧ (x.key ≠ 0x0000 → x.key ≠ 0xFFFF → x.floor.toInt ≤ x.value.toInt → x.value.toInt ≤ x.ceiling.toInt →
            imageRecord m g h = some
              { key := x.key, state := .live, home := some ⟨g, h⟩, guard := x.guard, value := x.value
                floor := x.floor, ceiling := x.ceiling, generation := x.generation, holder := none, holdCount := 0
                lease := none, waiters := [], watchers := Vector.replicate 4 none }))
        ∧ (cap[h] = .free ∨ cap[h] = .vacated → imageOccupied m h = false)
end

