-- ==== Sys2Proof/Laws/State.lean ====
section
/-! SUPPORT. The state after each plain update: the field it writes, and that it leaves every other field as it was. -/

namespace Sys2Proof.Machine

/-! ### The field written -/

@[simp] theorem State.setSlot_slots (s : State) (i : Slot) (r : Option Record) :
    (s.setSlot i r).slots = s.slots.set i r := rfl

@[simp] theorem State.setHome_homeMap (s : State) (h : HomeId) (x : Home) :
    (s.setHome h x).homeMap = s.homeMap.set h.group (s.homeMap[h.group].set h.home x) := rfl

@[simp] theorem State.setGroup_groups (s : State) (g : GroupId) (x : Group) :
    (s.setGroup g x).groups = s.groups.set g x := rfl

@[simp] theorem State.modifyPort_ports (s : State) (p : PortId) (f : Port → Port) :
    (s.modifyPort p f).ports = s.ports.set p (f s.ports[p]) := rfl

@[simp] theorem State.takeRequest_pointer (s : State) (p : PortId) (f : RequestFrame) :
    (s.takeRequest p f).pointer = p := rfl

@[simp] theorem State.takeRequest_ports (s : State) (p : PortId) (f : RequestFrame) :
    (s.takeRequest p f).ports = s.ports.set p
      { s.ports[p] with requests := s.ports[p].requests.tail, reserved := s.ports[p].reserved ++ [f.tag] } := rfl

@[simp] theorem State.takeRequest_item (s : State) (p : PortId) (f : RequestFrame) :
    (s.takeRequest p f).item = some ⟨.request p f, s.time⟩ := rfl

@[simp] theorem State.takeEvent_events (s : State) (e : Event) : (s.takeEvent e).events = s.events.tail := rfl

@[simp] theorem State.takeEvent_item (s : State) (e : Event) : (s.takeEvent e).item = some ⟨.event e, s.time⟩ := rfl

@[simp] theorem State.addDeadline_serial (s : State) (kind : DeadlineKind) (key : Key) (port : PortId) (len : Ticks) :
    (s.addDeadline kind key port len).serial = s.nextSerial := by
  unfold State.addDeadline; dsimp only; split <;> rfl

@[simp] theorem State.setSpare_banks (s : State) (g : GroupId) (m : Memory) :
    (s.setSpare g m).banks = s.banks.set g (s.banks[g].put (spareOf s.groups[g].current) m) := rfl

@[simp] theorem State.enterPhase_groups (s : State) (a : ActiveRewrite) (ph : RewritePhase) :
    (s.enterPhase a ph).groups =
      s.groups.set a.group { s.groups[a.group] with state := .rewriting ph a.attempt, ticks := 0 } := rfl

/-! ### The fields left -/

/-- `mapPorts` writes ports alone. -/
@[simp] theorem State.mapPorts_frame (s : State) (f : PortId → Port → Port) :
    (s.mapPorts f).pending = s.pending ∧ (s.mapPorts f).phase = s.phase ∧ (s.mapPorts f).slots = s.slots ∧
    (s.mapPorts f).index = s.index ∧ (s.mapPorts f).homeMap = s.homeMap ∧ (s.mapPorts f).events = s.events ∧
    (s.mapPorts f).pointer = s.pointer ∧ (s.mapPorts f).item = s.item ∧ (s.mapPorts f).time = s.time ∧
    (s.mapPorts f).deadlines = s.deadlines ∧ (s.mapPorts f).serial = s.serial ∧
    (s.mapPorts f).groups = s.groups ∧ (s.mapPorts f).queue = s.queue ∧ (s.mapPorts f).active = s.active ∧
    (s.mapPorts f).suspended = s.suspended ∧ (s.mapPorts f).pauseOrdered = s.pauseOrdered ∧
    (s.mapPorts f).banks = s.banks ∧ (s.mapPorts f).pfw = s.pfw ∧ (s.mapPorts f).pfwSeen = s.pfwSeen ∧
    (s.mapPorts f).fresh = s.fresh := by
  refine ⟨rfl, rfl, rfl, rfl, rfl, rfl, rfl, rfl, rfl, rfl, rfl, rfl, rfl, rfl, rfl, rfl, rfl, rfl, rfl, rfl⟩

/-- `modifyPort` writes ports alone. -/
@[simp] theorem State.modifyPort_frame (s : State) (p : PortId) (f : Port → Port) :
    (s.modifyPort p f).pending = s.pending ∧ (s.modifyPort p f).phase = s.phase ∧
    (s.modifyPort p f).slots = s.slots ∧ (s.modifyPort p f).index = s.index ∧
    (s.modifyPort p f).homeMap = s.homeMap ∧ (s.modifyPort p f).events = s.events ∧
    (s.modifyPort p f).pointer = s.pointer ∧ (s.modifyPort p f).item = s.item ∧
    (s.modifyPort p f).time = s.time ∧ (s.modifyPort p f).deadlines = s.deadlines ∧
    (s.modifyPort p f).serial = s.serial ∧ (s.modifyPort p f).groups = s.groups ∧
    (s.modifyPort p f).queue = s.queue ∧ (s.modifyPort p f).active = s.active ∧
    (s.modifyPort p f).suspended = s.suspended ∧ (s.modifyPort p f).pauseOrdered = s.pauseOrdered ∧
    (s.modifyPort p f).banks = s.banks ∧ (s.modifyPort p f).pfw = s.pfw ∧
    (s.modifyPort p f).pfwSeen = s.pfwSeen ∧ (s.modifyPort p f).fresh = s.fresh := by
  refine ⟨rfl, rfl, rfl, rfl, rfl, rfl, rfl, rfl, rfl, rfl, rfl, rfl, rfl, rfl, rfl, rfl, rfl, rfl, rfl, rfl⟩

/-- `setSlot` writes slots alone. -/
@[simp] theorem State.setSlot_frame (s : State) (i : Slot) (r : Option Record) :
    (s.setSlot i r).pending = s.pending ∧ (s.setSlot i r).phase = s.phase ∧ (s.setSlot i r).index = s.index ∧
    (s.setSlot i r).homeMap = s.homeMap ∧ (s.setSlot i r).events = s.events ∧
    (s.setSlot i r).pointer = s.pointer ∧ (s.setSlot i r).item = s.item ∧ (s.setSlot i r).time = s.time ∧
    (s.setSlot i r).deadlines = s.deadlines ∧ (s.setSlot i r).serial = s.serial ∧
    (s.setSlot i r).ports = s.ports ∧ (s.setSlot i r).groups = s.groups ∧ (s.setSlot i r).queue = s.queue ∧
    (s.setSlot i r).active = s.active ∧ (s.setSlot i r).suspended = s.suspended ∧
    (s.setSlot i r).pauseOrdered = s.pauseOrdered ∧ (s.setSlot i r).banks = s.banks ∧
    (s.setSlot i r).pfw = s.pfw ∧ (s.setSlot i r).pfwSeen = s.pfwSeen ∧ (s.setSlot i r).fresh = s.fresh := by
  refine ⟨rfl, rfl, rfl, rfl, rfl, rfl, rfl, rfl, rfl, rfl, rfl, rfl, rfl, rfl, rfl, rfl, rfl, rfl, rfl, rfl⟩

/-- `setHome` writes homeMap alone. -/
@[simp] theorem State.setHome_frame (s : State) (h : HomeId) (x : Home) :
    (s.setHome h x).pending = s.pending ∧ (s.setHome h x).phase = s.phase ∧ (s.setHome h x).slots = s.slots ∧
    (s.setHome h x).index = s.index ∧ (s.setHome h x).events = s.events ∧ (s.setHome h x).pointer = s.pointer ∧
    (s.setHome h x).item = s.item ∧ (s.setHome h x).time = s.time ∧ (s.setHome h x).deadlines = s.deadlines ∧
    (s.setHome h x).serial = s.serial ∧ (s.setHome h x).ports = s.ports ∧ (s.setHome h x).groups = s.groups ∧
    (s.setHome h x).queue = s.queue ∧ (s.setHome h x).active = s.active ∧
    (s.setHome h x).suspended = s.suspended ∧ (s.setHome h x).pauseOrdered = s.pauseOrdered ∧
    (s.setHome h x).banks = s.banks ∧ (s.setHome h x).pfw = s.pfw ∧ (s.setHome h x).pfwSeen = s.pfwSeen ∧
    (s.setHome h x).fresh = s.fresh := by
  refine ⟨rfl, rfl, rfl, rfl, rfl, rfl, rfl, rfl, rfl, rfl, rfl, rfl, rfl, rfl, rfl, rfl, rfl, rfl, rfl, rfl⟩

/-- `setGroup` writes groups alone. -/
@[simp] theorem State.setGroup_frame (s : State) (g : GroupId) (x : Group) :
    (s.setGroup g x).pending = s.pending ∧ (s.setGroup g x).phase = s.phase ∧ (s.setGroup g x).slots = s.slots ∧
    (s.setGroup g x).index = s.index ∧ (s.setGroup g x).homeMap = s.homeMap ∧
    (s.setGroup g x).events = s.events ∧ (s.setGroup g x).pointer = s.pointer ∧ (s.setGroup g x).item = s.item ∧
    (s.setGroup g x).time = s.time ∧ (s.setGroup g x).deadlines = s.deadlines ∧
    (s.setGroup g x).serial = s.serial ∧ (s.setGroup g x).ports = s.ports ∧ (s.setGroup g x).queue = s.queue ∧
    (s.setGroup g x).active = s.active ∧ (s.setGroup g x).suspended = s.suspended ∧
    (s.setGroup g x).pauseOrdered = s.pauseOrdered ∧ (s.setGroup g x).banks = s.banks ∧
    (s.setGroup g x).pfw = s.pfw ∧ (s.setGroup g x).pfwSeen = s.pfwSeen ∧ (s.setGroup g x).fresh = s.fresh := by
  refine ⟨rfl, rfl, rfl, rfl, rfl, rfl, rfl, rfl, rfl, rfl, rfl, rfl, rfl, rfl, rfl, rfl, rfl, rfl, rfl, rfl⟩

/-- `giveNotice` writes ports alone. -/
@[simp] theorem State.giveNotice_frame (s : State) (p : PortId) (n : Notice) :
    (s.giveNotice p n).pending = s.pending ∧ (s.giveNotice p n).phase = s.phase ∧
    (s.giveNotice p n).slots = s.slots ∧ (s.giveNotice p n).index = s.index ∧
    (s.giveNotice p n).homeMap = s.homeMap ∧ (s.giveNotice p n).events = s.events ∧
    (s.giveNotice p n).pointer = s.pointer ∧ (s.giveNotice p n).item = s.item ∧
    (s.giveNotice p n).time = s.time ∧ (s.giveNotice p n).deadlines = s.deadlines ∧
    (s.giveNotice p n).serial = s.serial ∧ (s.giveNotice p n).groups = s.groups ∧
    (s.giveNotice p n).queue = s.queue ∧ (s.giveNotice p n).active = s.active ∧
    (s.giveNotice p n).suspended = s.suspended ∧ (s.giveNotice p n).pauseOrdered = s.pauseOrdered ∧
    (s.giveNotice p n).banks = s.banks ∧ (s.giveNotice p n).pfw = s.pfw ∧
    (s.giveNotice p n).pfwSeen = s.pfwSeen ∧ (s.giveNotice p n).fresh = s.fresh := by
  refine ⟨rfl, rfl, rfl, rfl, rfl, rfl, rfl, rfl, rfl, rfl, rfl, rfl, rfl, rfl, rfl, rfl, rfl, rfl, rfl, rfl⟩

/-- `notifyWatchers` writes ports alone. -/
@[simp] theorem State.notifyWatchers_frame (s : State) (w : Vector (Option Interest) 4) (wants : Interest → Bool) (n : Notice) :
    (s.notifyWatchers w wants n).pending = s.pending ∧ (s.notifyWatchers w wants n).phase = s.phase ∧
    (s.notifyWatchers w wants n).slots = s.slots ∧ (s.notifyWatchers w wants n).index = s.index ∧
    (s.notifyWatchers w wants n).homeMap = s.homeMap ∧ (s.notifyWatchers w wants n).events = s.events ∧
    (s.notifyWatchers w wants n).pointer = s.pointer ∧ (s.notifyWatchers w wants n).item = s.item ∧
    (s.notifyWatchers w wants n).time = s.time ∧ (s.notifyWatchers w wants n).deadlines = s.deadlines ∧
    (s.notifyWatchers w wants n).serial = s.serial ∧ (s.notifyWatchers w wants n).groups = s.groups ∧
    (s.notifyWatchers w wants n).queue = s.queue ∧ (s.notifyWatchers w wants n).active = s.active ∧
    (s.notifyWatchers w wants n).suspended = s.suspended ∧
    (s.notifyWatchers w wants n).pauseOrdered = s.pauseOrdered ∧ (s.notifyWatchers w wants n).banks = s.banks ∧
    (s.notifyWatchers w wants n).pfw = s.pfw ∧ (s.notifyWatchers w wants n).pfwSeen = s.pfwSeen ∧
    (s.notifyWatchers w wants n).fresh = s.fresh := by
  refine ⟨rfl, rfl, rfl, rfl, rfl, rfl, rfl, rfl, rfl, rfl, rfl, rfl, rfl, rfl, rfl, rfl, rfl, rfl, rfl, rfl⟩

/-- `deviceNotice` writes ports alone. -/
@[simp] theorem State.deviceNotice_frame (s : State) (kinds : DeviceKinds) (g : Option GroupId) :
    (s.deviceNotice kinds g).pending = s.pending ∧ (s.deviceNotice kinds g).phase = s.phase ∧
    (s.deviceNotice kinds g).slots = s.slots ∧ (s.deviceNotice kinds g).index = s.index ∧
    (s.deviceNotice kinds g).homeMap = s.homeMap ∧ (s.deviceNotice kinds g).events = s.events ∧
    (s.deviceNotice kinds g).pointer = s.pointer ∧ (s.deviceNotice kinds g).item = s.item ∧
    (s.deviceNotice kinds g).time = s.time ∧ (s.deviceNotice kinds g).deadlines = s.deadlines ∧
    (s.deviceNotice kinds g).serial = s.serial ∧ (s.deviceNotice kinds g).groups = s.groups ∧
    (s.deviceNotice kinds g).queue = s.queue ∧ (s.deviceNotice kinds g).active = s.active ∧
    (s.deviceNotice kinds g).suspended = s.suspended ∧ (s.deviceNotice kinds g).pauseOrdered = s.pauseOrdered ∧
    (s.deviceNotice kinds g).banks = s.banks ∧ (s.deviceNotice kinds g).pfw = s.pfw ∧
    (s.deviceNotice kinds g).pfwSeen = s.pfwSeen ∧ (s.deviceNotice kinds g).fresh = s.fresh := by
  refine ⟨rfl, rfl, rfl, rfl, rfl, rfl, rfl, rfl, rfl, rfl, rfl, rfl, rfl, rfl, rfl, rfl, rfl, rfl, rfl, rfl⟩

/-- `fill` writes ports alone. -/
@[simp] theorem State.fill_frame (s : State) (p : PortId) (r : Reply) :
    (s.fill p r).pending = s.pending ∧ (s.fill p r).phase = s.phase ∧ (s.fill p r).slots = s.slots ∧
    (s.fill p r).index = s.index ∧ (s.fill p r).homeMap = s.homeMap ∧ (s.fill p r).events = s.events ∧
    (s.fill p r).pointer = s.pointer ∧ (s.fill p r).item = s.item ∧ (s.fill p r).time = s.time ∧
    (s.fill p r).deadlines = s.deadlines ∧ (s.fill p r).serial = s.serial ∧ (s.fill p r).groups = s.groups ∧
    (s.fill p r).queue = s.queue ∧ (s.fill p r).active = s.active ∧ (s.fill p r).suspended = s.suspended ∧
    (s.fill p r).pauseOrdered = s.pauseOrdered ∧ (s.fill p r).banks = s.banks ∧ (s.fill p r).pfw = s.pfw ∧
    (s.fill p r).pfwSeen = s.pfwSeen ∧ (s.fill p r).fresh = s.fresh := by
  refine ⟨rfl, rfl, rfl, rfl, rfl, rfl, rfl, rfl, rfl, rfl, rfl, rfl, rfl, rfl, rfl, rfl, rfl, rfl, rfl, rfl⟩

/-- `unpark` writes ports alone. -/
@[simp] theorem State.unpark_frame (s : State) (p : PortId) :
    (s.unpark p).pending = s.pending ∧ (s.unpark p).phase = s.phase ∧ (s.unpark p).slots = s.slots ∧
    (s.unpark p).index = s.index ∧ (s.unpark p).homeMap = s.homeMap ∧ (s.unpark p).events = s.events ∧
    (s.unpark p).pointer = s.pointer ∧ (s.unpark p).item = s.item ∧ (s.unpark p).time = s.time ∧
    (s.unpark p).deadlines = s.deadlines ∧ (s.unpark p).serial = s.serial ∧ (s.unpark p).groups = s.groups ∧
    (s.unpark p).queue = s.queue ∧ (s.unpark p).active = s.active ∧ (s.unpark p).suspended = s.suspended ∧
    (s.unpark p).pauseOrdered = s.pauseOrdered ∧ (s.unpark p).banks = s.banks ∧ (s.unpark p).pfw = s.pfw ∧
    (s.unpark p).pfwSeen = s.pfwSeen ∧ (s.unpark p).fresh = s.fresh := by
  refine ⟨rfl, rfl, rfl, rfl, rfl, rfl, rfl, rfl, rfl, rfl, rfl, rfl, rfl, rfl, rfl, rfl, rfl, rfl, rfl, rfl⟩

/-- `park` writes ports alone. -/
@[simp] theorem State.park_frame (s : State) (p : PortId) :
    (s.park p).pending = s.pending ∧ (s.park p).phase = s.phase ∧ (s.park p).slots = s.slots ∧
    (s.park p).index = s.index ∧ (s.park p).homeMap = s.homeMap ∧ (s.park p).events = s.events ∧
    (s.park p).pointer = s.pointer ∧ (s.park p).item = s.item ∧ (s.park p).time = s.time ∧
    (s.park p).deadlines = s.deadlines ∧ (s.park p).serial = s.serial ∧ (s.park p).groups = s.groups ∧
    (s.park p).queue = s.queue ∧ (s.park p).active = s.active ∧ (s.park p).suspended = s.suspended ∧
    (s.park p).pauseOrdered = s.pauseOrdered ∧ (s.park p).banks = s.banks ∧ (s.park p).pfw = s.pfw ∧
    (s.park p).pfwSeen = s.pfwSeen ∧ (s.park p).fresh = s.fresh := by
  refine ⟨rfl, rfl, rfl, rfl, rfl, rfl, rfl, rfl, rfl, rfl, rfl, rfl, rfl, rfl, rfl, rfl, rfl, rfl, rfl, rfl⟩

/-- `takeRequest` writes ports, pointer, item alone. -/
@[simp] theorem State.takeRequest_frame (s : State) (p : PortId) (f : RequestFrame) :
    (s.takeRequest p f).pending = s.pending ∧ (s.takeRequest p f).phase = s.phase ∧
    (s.takeRequest p f).slots = s.slots ∧ (s.takeRequest p f).index = s.index ∧
    (s.takeRequest p f).homeMap = s.homeMap ∧ (s.takeRequest p f).events = s.events ∧
    (s.takeRequest p f).time = s.time ∧ (s.takeRequest p f).deadlines = s.deadlines ∧
    (s.takeRequest p f).serial = s.serial ∧ (s.takeRequest p f).groups = s.groups ∧
    (s.takeRequest p f).queue = s.queue ∧ (s.takeRequest p f).active = s.active ∧
    (s.takeRequest p f).suspended = s.suspended ∧ (s.takeRequest p f).pauseOrdered = s.pauseOrdered ∧
    (s.takeRequest p f).banks = s.banks ∧ (s.takeRequest p f).pfw = s.pfw ∧
    (s.takeRequest p f).pfwSeen = s.pfwSeen ∧ (s.takeRequest p f).fresh = s.fresh := by
  refine ⟨rfl, rfl, rfl, rfl, rfl, rfl, rfl, rfl, rfl, rfl, rfl, rfl, rfl, rfl, rfl, rfl, rfl, rfl⟩

/-- `takeEvent` writes events, item alone. -/
@[simp] theorem State.takeEvent_frame (s : State) (e : Event) :
    (s.takeEvent e).pending = s.pending ∧ (s.takeEvent e).phase = s.phase ∧ (s.takeEvent e).slots = s.slots ∧
    (s.takeEvent e).index = s.index ∧ (s.takeEvent e).homeMap = s.homeMap ∧
    (s.takeEvent e).pointer = s.pointer ∧ (s.takeEvent e).time = s.time ∧
    (s.takeEvent e).deadlines = s.deadlines ∧ (s.takeEvent e).serial = s.serial ∧
    (s.takeEvent e).ports = s.ports ∧ (s.takeEvent e).groups = s.groups ∧ (s.takeEvent e).queue = s.queue ∧
    (s.takeEvent e).active = s.active ∧ (s.takeEvent e).suspended = s.suspended ∧
    (s.takeEvent e).pauseOrdered = s.pauseOrdered ∧ (s.takeEvent e).banks = s.banks ∧
    (s.takeEvent e).pfw = s.pfw ∧ (s.takeEvent e).pfwSeen = s.pfwSeen ∧ (s.takeEvent e).fresh = s.fresh := by
  refine ⟨rfl, rfl, rfl, rfl, rfl, rfl, rfl, rfl, rfl, rfl, rfl, rfl, rfl, rfl, rfl, rfl, rfl, rfl, rfl⟩

/-- `answer` writes ports alone. -/
@[simp] theorem State.answer_frame (s : State) (p : PortId) (f : RequestFrame) (a : Answer) :
    (s.answer p f a).pending = s.pending ∧ (s.answer p f a).phase = s.phase ∧ (s.answer p f a).slots = s.slots ∧
    (s.answer p f a).index = s.index ∧ (s.answer p f a).homeMap = s.homeMap ∧
    (s.answer p f a).events = s.events ∧ (s.answer p f a).pointer = s.pointer ∧ (s.answer p f a).item = s.item ∧
    (s.answer p f a).time = s.time ∧ (s.answer p f a).deadlines = s.deadlines ∧
    (s.answer p f a).serial = s.serial ∧ (s.answer p f a).groups = s.groups ∧ (s.answer p f a).queue = s.queue ∧
    (s.answer p f a).active = s.active ∧ (s.answer p f a).suspended = s.suspended ∧
    (s.answer p f a).pauseOrdered = s.pauseOrdered ∧ (s.answer p f a).banks = s.banks ∧
    (s.answer p f a).pfw = s.pfw ∧ (s.answer p f a).pfwSeen = s.pfwSeen ∧ (s.answer p f a).fresh = s.fresh := by
  refine ⟨rfl, rfl, rfl, rfl, rfl, rfl, rfl, rfl, rfl, rfl, rfl, rfl, rfl, rfl, rfl, rfl, rfl, rfl, rfl, rfl⟩

/-- `dropWatches` writes ports alone. -/
@[simp] theorem State.dropWatches_frame (s : State) (w : Vector (Option Interest) 4) :
    (s.dropWatches w).pending = s.pending ∧ (s.dropWatches w).phase = s.phase ∧
    (s.dropWatches w).slots = s.slots ∧ (s.dropWatches w).index = s.index ∧
    (s.dropWatches w).homeMap = s.homeMap ∧ (s.dropWatches w).events = s.events ∧
    (s.dropWatches w).pointer = s.pointer ∧ (s.dropWatches w).item = s.item ∧ (s.dropWatches w).time = s.time ∧
    (s.dropWatches w).deadlines = s.deadlines ∧ (s.dropWatches w).serial = s.serial ∧
    (s.dropWatches w).groups = s.groups ∧ (s.dropWatches w).queue = s.queue ∧
    (s.dropWatches w).active = s.active ∧ (s.dropWatches w).suspended = s.suspended ∧
    (s.dropWatches w).pauseOrdered = s.pauseOrdered ∧ (s.dropWatches w).banks = s.banks ∧
    (s.dropWatches w).pfw = s.pfw ∧ (s.dropWatches w).pfwSeen = s.pfwSeen ∧ (s.dropWatches w).fresh = s.fresh := by
  refine ⟨rfl, rfl, rfl, rfl, rfl, rfl, rfl, rfl, rfl, rfl, rfl, rfl, rfl, rfl, rfl, rfl, rfl, rfl, rfl, rfl⟩

/-- `setSpare` writes banks alone. -/
@[simp] theorem State.setSpare_frame (s : State) (g : GroupId) (m : Memory) :
    (s.setSpare g m).pending = s.pending ∧ (s.setSpare g m).phase = s.phase ∧ (s.setSpare g m).slots = s.slots ∧
    (s.setSpare g m).index = s.index ∧ (s.setSpare g m).homeMap = s.homeMap ∧
    (s.setSpare g m).events = s.events ∧ (s.setSpare g m).pointer = s.pointer ∧ (s.setSpare g m).item = s.item ∧
    (s.setSpare g m).time = s.time ∧ (s.setSpare g m).deadlines = s.deadlines ∧
    (s.setSpare g m).serial = s.serial ∧ (s.setSpare g m).ports = s.ports ∧ (s.setSpare g m).groups = s.groups ∧
    (s.setSpare g m).queue = s.queue ∧ (s.setSpare g m).active = s.active ∧
    (s.setSpare g m).suspended = s.suspended ∧ (s.setSpare g m).pauseOrdered = s.pauseOrdered ∧
    (s.setSpare g m).pfw = s.pfw ∧ (s.setSpare g m).pfwSeen = s.pfwSeen ∧ (s.setSpare g m).fresh = s.fresh := by
  refine ⟨rfl, rfl, rfl, rfl, rfl, rfl, rfl, rfl, rfl, rfl, rfl, rfl, rfl, rfl, rfl, rfl, rfl, rfl, rfl, rfl⟩

/-- `requeueAbandoned` writes groups, queue alone. -/
@[simp] theorem State.requeueAbandoned_frame (s : State) (g : GroupId) :
    (s.requeueAbandoned g).pending = s.pending ∧ (s.requeueAbandoned g).phase = s.phase ∧
    (s.requeueAbandoned g).slots = s.slots ∧ (s.requeueAbandoned g).index = s.index ∧
    (s.requeueAbandoned g).homeMap = s.homeMap ∧ (s.requeueAbandoned g).events = s.events ∧
    (s.requeueAbandoned g).pointer = s.pointer ∧ (s.requeueAbandoned g).item = s.item ∧
    (s.requeueAbandoned g).time = s.time ∧ (s.requeueAbandoned g).deadlines = s.deadlines ∧
    (s.requeueAbandoned g).serial = s.serial ∧ (s.requeueAbandoned g).ports = s.ports ∧
    (s.requeueAbandoned g).active = s.active ∧ (s.requeueAbandoned g).suspended = s.suspended ∧
    (s.requeueAbandoned g).pauseOrdered = s.pauseOrdered ∧ (s.requeueAbandoned g).banks = s.banks ∧
    (s.requeueAbandoned g).pfw = s.pfw ∧ (s.requeueAbandoned g).pfwSeen = s.pfwSeen ∧
    (s.requeueAbandoned g).fresh = s.fresh := by
  refine ⟨rfl, rfl, rfl, rfl, rfl, rfl, rfl, rfl, rfl, rfl, rfl, rfl, rfl, rfl, rfl, rfl, rfl, rfl, rfl⟩

/-- `retry` writes groups alone. -/
@[simp] theorem State.retry_frame (s : State) (g : GroupId) :
    (s.retry g).pending = s.pending ∧ (s.retry g).phase = s.phase ∧ (s.retry g).slots = s.slots ∧
    (s.retry g).index = s.index ∧ (s.retry g).homeMap = s.homeMap ∧ (s.retry g).events = s.events ∧
    (s.retry g).pointer = s.pointer ∧ (s.retry g).item = s.item ∧ (s.retry g).time = s.time ∧
    (s.retry g).deadlines = s.deadlines ∧ (s.retry g).serial = s.serial ∧ (s.retry g).ports = s.ports ∧
    (s.retry g).queue = s.queue ∧ (s.retry g).active = s.active ∧ (s.retry g).suspended = s.suspended ∧
    (s.retry g).pauseOrdered = s.pauseOrdered ∧ (s.retry g).banks = s.banks ∧ (s.retry g).pfw = s.pfw ∧
    (s.retry g).pfwSeen = s.pfwSeen ∧ (s.retry g).fresh = s.fresh := by
  refine ⟨rfl, rfl, rfl, rfl, rfl, rfl, rfl, rfl, rfl, rfl, rfl, rfl, rfl, rfl, rfl, rfl, rfl, rfl, rfl, rfl⟩

/-- `promote` writes queue, pauseOrdered alone. -/
@[simp] theorem State.promote_frame (s : State) (g : GroupId) :
    (s.promote g).pending = s.pending ∧ (s.promote g).phase = s.phase ∧ (s.promote g).slots = s.slots ∧
    (s.promote g).index = s.index ∧ (s.promote g).homeMap = s.homeMap ∧ (s.promote g).events = s.events ∧
    (s.promote g).pointer = s.pointer ∧ (s.promote g).item = s.item ∧ (s.promote g).time = s.time ∧
    (s.promote g).deadlines = s.deadlines ∧ (s.promote g).serial = s.serial ∧ (s.promote g).ports = s.ports ∧
    (s.promote g).groups = s.groups ∧ (s.promote g).active = s.active ∧ (s.promote g).suspended = s.suspended ∧
    (s.promote g).banks = s.banks ∧ (s.promote g).pfw = s.pfw ∧ (s.promote g).pfwSeen = s.pfwSeen ∧
    (s.promote g).fresh = s.fresh := by
  refine ⟨rfl, rfl, rfl, rfl, rfl, rfl, rfl, rfl, rfl, rfl, rfl, rfl, rfl, rfl, rfl, rfl, rfl, rfl, rfl⟩

/-- `settleHomes` writes homeMap alone. -/
@[simp] theorem State.settleHomes_frame (s : State) (g : GroupId) (noted : List (Fin 16)) :
    (s.settleHomes g noted).pending = s.pending ∧ (s.settleHomes g noted).phase = s.phase ∧
    (s.settleHomes g noted).slots = s.slots ∧ (s.settleHomes g noted).index = s.index ∧
    (s.settleHomes g noted).events = s.events ∧ (s.settleHomes g noted).pointer = s.pointer ∧
    (s.settleHomes g noted).item = s.item ∧ (s.settleHomes g noted).time = s.time ∧
    (s.settleHomes g noted).deadlines = s.deadlines ∧ (s.settleHomes g noted).serial = s.serial ∧
    (s.settleHomes g noted).ports = s.ports ∧ (s.settleHomes g noted).groups = s.groups ∧
    (s.settleHomes g noted).queue = s.queue ∧ (s.settleHomes g noted).active = s.active ∧
    (s.settleHomes g noted).suspended = s.suspended ∧ (s.settleHomes g noted).pauseOrdered = s.pauseOrdered ∧
    (s.settleHomes g noted).banks = s.banks ∧ (s.settleHomes g noted).pfw = s.pfw ∧
    (s.settleHomes g noted).pfwSeen = s.pfwSeen ∧ (s.settleHomes g noted).fresh = s.fresh := by
  refine ⟨rfl, rfl, rfl, rfl, rfl, rfl, rfl, rfl, rfl, rfl, rfl, rfl, rfl, rfl, rfl, rfl, rfl, rfl, rfl, rfl⟩

/-- `beginRestore` writes phase, pfwSeen alone. -/
@[simp] theorem State.beginRestore_frame (s : State) :
    (s.beginRestore).pending = s.pending ∧ (s.beginRestore).slots = s.slots ∧ (s.beginRestore).index = s.index ∧
    (s.beginRestore).homeMap = s.homeMap ∧ (s.beginRestore).events = s.events ∧
    (s.beginRestore).pointer = s.pointer ∧ (s.beginRestore).item = s.item ∧ (s.beginRestore).time = s.time ∧
    (s.beginRestore).deadlines = s.deadlines ∧ (s.beginRestore).serial = s.serial ∧
    (s.beginRestore).ports = s.ports ∧ (s.beginRestore).groups = s.groups ∧ (s.beginRestore).queue = s.queue ∧
    (s.beginRestore).active = s.active ∧ (s.beginRestore).suspended = s.suspended ∧
    (s.beginRestore).pauseOrdered = s.pauseOrdered ∧ (s.beginRestore).banks = s.banks ∧
    (s.beginRestore).pfw = s.pfw ∧ (s.beginRestore).fresh = s.fresh := by
  refine ⟨rfl, rfl, rfl, rfl, rfl, rfl, rfl, rfl, rfl, rfl, rfl, rfl, rfl, rfl, rfl, rfl, rfl, rfl, rfl⟩

/-- `sampleStraps` writes ports alone. -/
@[simp] theorem State.sampleStraps_frame (s : State) (psv0 psv1 psv2 psv3 : Privilege) :
    (s.sampleStraps psv0 psv1 psv2 psv3).pending = s.pending ∧
    (s.sampleStraps psv0 psv1 psv2 psv3).phase = s.phase ∧
    (s.sampleStraps psv0 psv1 psv2 psv3).slots = s.slots ∧
    (s.sampleStraps psv0 psv1 psv2 psv3).index = s.index ∧
    (s.sampleStraps psv0 psv1 psv2 psv3).homeMap = s.homeMap ∧
    (s.sampleStraps psv0 psv1 psv2 psv3).events = s.events ∧
    (s.sampleStraps psv0 psv1 psv2 psv3).pointer = s.pointer ∧
    (s.sampleStraps psv0 psv1 psv2 psv3).item = s.item ∧ (s.sampleStraps psv0 psv1 psv2 psv3).time = s.time ∧
    (s.sampleStraps psv0 psv1 psv2 psv3).deadlines = s.deadlines ∧
    (s.sampleStraps psv0 psv1 psv2 psv3).serial = s.serial ∧
    (s.sampleStraps psv0 psv1 psv2 psv3).groups = s.groups ∧
    (s.sampleStraps psv0 psv1 psv2 psv3).queue = s.queue ∧
    (s.sampleStraps psv0 psv1 psv2 psv3).active = s.active ∧
    (s.sampleStraps psv0 psv1 psv2 psv3).suspended = s.suspended ∧
    (s.sampleStraps psv0 psv1 psv2 psv3).pauseOrdered = s.pauseOrdered ∧
    (s.sampleStraps psv0 psv1 psv2 psv3).banks = s.banks ∧ (s.sampleStraps psv0 psv1 psv2 psv3).pfw = s.pfw ∧
    (s.sampleStraps psv0 psv1 psv2 psv3).pfwSeen = s.pfwSeen ∧
    (s.sampleStraps psv0 psv1 psv2 psv3).fresh = s.fresh := by
  refine ⟨rfl, rfl, rfl, rfl, rfl, rfl, rfl, rfl, rfl, rfl, rfl, rfl, rfl, rfl, rfl, rfl, rfl, rfl, rfl, rfl⟩

/-- `withdrawSyncs` writes groups alone. -/
@[simp] theorem State.withdrawSyncs_frame (s : State) (p : PortId) :
    (s.withdrawSyncs p).pending = s.pending ∧ (s.withdrawSyncs p).phase = s.phase ∧
    (s.withdrawSyncs p).slots = s.slots ∧ (s.withdrawSyncs p).index = s.index ∧
    (s.withdrawSyncs p).homeMap = s.homeMap ∧ (s.withdrawSyncs p).events = s.events ∧
    (s.withdrawSyncs p).pointer = s.pointer ∧ (s.withdrawSyncs p).item = s.item ∧
    (s.withdrawSyncs p).time = s.time ∧ (s.withdrawSyncs p).deadlines = s.deadlines ∧
    (s.withdrawSyncs p).serial = s.serial ∧ (s.withdrawSyncs p).ports = s.ports ∧
    (s.withdrawSyncs p).queue = s.queue ∧ (s.withdrawSyncs p).active = s.active ∧
    (s.withdrawSyncs p).suspended = s.suspended ∧ (s.withdrawSyncs p).pauseOrdered = s.pauseOrdered ∧
    (s.withdrawSyncs p).banks = s.banks ∧ (s.withdrawSyncs p).pfw = s.pfw ∧
    (s.withdrawSyncs p).pfwSeen = s.pfwSeen ∧ (s.withdrawSyncs p).fresh = s.fresh := by
  refine ⟨rfl, rfl, rfl, rfl, rfl, rfl, rfl, rfl, rfl, rfl, rfl, rfl, rfl, rfl, rfl, rfl, rfl, rfl, rfl, rfl⟩

/-- `dropPortWatches` writes slots alone. -/
@[simp] theorem State.dropPortWatches_frame (s : State) (p : PortId) :
    (s.dropPortWatches p).pending = s.pending ∧ (s.dropPortWatches p).phase = s.phase ∧
    (s.dropPortWatches p).index = s.index ∧ (s.dropPortWatches p).homeMap = s.homeMap ∧
    (s.dropPortWatches p).events = s.events ∧ (s.dropPortWatches p).pointer = s.pointer ∧
    (s.dropPortWatches p).item = s.item ∧ (s.dropPortWatches p).time = s.time ∧
    (s.dropPortWatches p).deadlines = s.deadlines ∧ (s.dropPortWatches p).serial = s.serial ∧
    (s.dropPortWatches p).ports = s.ports ∧ (s.dropPortWatches p).groups = s.groups ∧
    (s.dropPortWatches p).queue = s.queue ∧ (s.dropPortWatches p).active = s.active ∧
    (s.dropPortWatches p).suspended = s.suspended ∧ (s.dropPortWatches p).pauseOrdered = s.pauseOrdered ∧
    (s.dropPortWatches p).banks = s.banks ∧ (s.dropPortWatches p).pfw = s.pfw ∧
    (s.dropPortWatches p).pfwSeen = s.pfwSeen ∧ (s.dropPortWatches p).fresh = s.fresh := by
  refine ⟨rfl, rfl, rfl, rfl, rfl, rfl, rfl, rfl, rfl, rfl, rfl, rfl, rfl, rfl, rfl, rfl, rfl, rfl, rfl, rfl⟩

/-- `clearFault` writes groups, queue alone. -/
@[simp] theorem State.clearFault_frame (s : State) (g : GroupId) :
    (s.clearFault g).pending = s.pending ∧ (s.clearFault g).phase = s.phase ∧ (s.clearFault g).slots = s.slots ∧
    (s.clearFault g).index = s.index ∧ (s.clearFault g).homeMap = s.homeMap ∧
    (s.clearFault g).events = s.events ∧ (s.clearFault g).pointer = s.pointer ∧ (s.clearFault g).item = s.item ∧
    (s.clearFault g).time = s.time ∧ (s.clearFault g).deadlines = s.deadlines ∧
    (s.clearFault g).serial = s.serial ∧ (s.clearFault g).ports = s.ports ∧ (s.clearFault g).active = s.active ∧
    (s.clearFault g).suspended = s.suspended ∧ (s.clearFault g).pauseOrdered = s.pauseOrdered ∧
    (s.clearFault g).banks = s.banks ∧ (s.clearFault g).pfw = s.pfw ∧ (s.clearFault g).pfwSeen = s.pfwSeen ∧
    (s.clearFault g).fresh = s.fresh := by
  refine ⟨rfl, rfl, rfl, rfl, rfl, rfl, rfl, rfl, rfl, rfl, rfl, rfl, rfl, rfl, rfl, rfl, rfl, rfl, rfl⟩

/-- `enterPhase` writes groups alone. -/
@[simp] theorem State.enterPhase_frame (s : State) (a : ActiveRewrite) (ph : RewritePhase) :
    (s.enterPhase a ph).pending = s.pending ∧ (s.enterPhase a ph).phase = s.phase ∧
    (s.enterPhase a ph).slots = s.slots ∧ (s.enterPhase a ph).index = s.index ∧
    (s.enterPhase a ph).homeMap = s.homeMap ∧ (s.enterPhase a ph).events = s.events ∧
    (s.enterPhase a ph).pointer = s.pointer ∧ (s.enterPhase a ph).item = s.item ∧
    (s.enterPhase a ph).time = s.time ∧ (s.enterPhase a ph).deadlines = s.deadlines ∧
    (s.enterPhase a ph).serial = s.serial ∧ (s.enterPhase a ph).ports = s.ports ∧
    (s.enterPhase a ph).queue = s.queue ∧ (s.enterPhase a ph).active = s.active ∧
    (s.enterPhase a ph).suspended = s.suspended ∧ (s.enterPhase a ph).pauseOrdered = s.pauseOrdered ∧
    (s.enterPhase a ph).banks = s.banks ∧ (s.enterPhase a ph).pfw = s.pfw ∧
    (s.enterPhase a ph).pfwSeen = s.pfwSeen ∧ (s.enterPhase a ph).fresh = s.fresh := by
  refine ⟨rfl, rfl, rfl, rfl, rfl, rfl, rfl, rfl, rfl, rfl, rfl, rfl, rfl, rfl, rfl, rfl, rfl, rfl, rfl, rfl⟩

/-- `suspendActive` writes groups, active, suspended, pauseOrdered alone. -/
@[simp] theorem State.suspendActive_frame (s : State) (a : ActiveRewrite) :
    (s.suspendActive a).pending = s.pending ∧ (s.suspendActive a).phase = s.phase ∧
    (s.suspendActive a).slots = s.slots ∧ (s.suspendActive a).index = s.index ∧
    (s.suspendActive a).homeMap = s.homeMap ∧ (s.suspendActive a).events = s.events ∧
    (s.suspendActive a).pointer = s.pointer ∧ (s.suspendActive a).item = s.item ∧
    (s.suspendActive a).time = s.time ∧ (s.suspendActive a).deadlines = s.deadlines ∧
    (s.suspendActive a).serial = s.serial ∧ (s.suspendActive a).ports = s.ports ∧
    (s.suspendActive a).queue = s.queue ∧ (s.suspendActive a).banks = s.banks ∧
    (s.suspendActive a).pfw = s.pfw ∧ (s.suspendActive a).pfwSeen = s.pfwSeen ∧
    (s.suspendActive a).fresh = s.fresh := by
  refine ⟨rfl, rfl, rfl, rfl, rfl, rfl, rfl, rfl, rfl, rfl, rfl, rfl, rfl, rfl, rfl, rfl, rfl⟩

/-- `setWatch` writes slots, ports alone. -/
@[simp] theorem State.setWatch_frame (s : State) (p : PortId) (i : Slot) (r : Record) (interest : Interest) (fresh : Bool) :
    (s.setWatch p i r interest fresh).pending = s.pending ∧ (s.setWatch p i r interest fresh).phase = s.phase ∧
    (s.setWatch p i r interest fresh).index = s.index ∧ (s.setWatch p i r interest fresh).homeMap = s.homeMap ∧
    (s.setWatch p i r interest fresh).events = s.events ∧
    (s.setWatch p i r interest fresh).pointer = s.pointer ∧ (s.setWatch p i r interest fresh).item = s.item ∧
    (s.setWatch p i r interest fresh).time = s.time ∧
    (s.setWatch p i r interest fresh).deadlines = s.deadlines ∧
    (s.setWatch p i r interest fresh).serial = s.serial ∧ (s.setWatch p i r interest fresh).groups = s.groups ∧
    (s.setWatch p i r interest fresh).queue = s.queue ∧ (s.setWatch p i r interest fresh).active = s.active ∧
    (s.setWatch p i r interest fresh).suspended = s.suspended ∧
    (s.setWatch p i r interest fresh).pauseOrdered = s.pauseOrdered ∧
    (s.setWatch p i r interest fresh).banks = s.banks ∧ (s.setWatch p i r interest fresh).pfw = s.pfw ∧
    (s.setWatch p i r interest fresh).pfwSeen = s.pfwSeen ∧ (s.setWatch p i r interest fresh).fresh = s.fresh := by
  refine ⟨rfl, rfl, rfl, rfl, rfl, rfl, rfl, rfl, rfl, rfl, rfl, rfl, rfl, rfl, rfl, rfl, rfl, rfl, rfl⟩

/-- `clearWatch` writes slots, ports alone. -/
@[simp] theorem State.clearWatch_frame (s : State) (p : PortId) (i : Slot) (r : Record) :
    (s.clearWatch p i r).pending = s.pending ∧ (s.clearWatch p i r).phase = s.phase ∧
    (s.clearWatch p i r).index = s.index ∧ (s.clearWatch p i r).homeMap = s.homeMap ∧
    (s.clearWatch p i r).events = s.events ∧ (s.clearWatch p i r).pointer = s.pointer ∧
    (s.clearWatch p i r).item = s.item ∧ (s.clearWatch p i r).time = s.time ∧
    (s.clearWatch p i r).deadlines = s.deadlines ∧ (s.clearWatch p i r).serial = s.serial ∧
    (s.clearWatch p i r).groups = s.groups ∧ (s.clearWatch p i r).queue = s.queue ∧
    (s.clearWatch p i r).active = s.active ∧ (s.clearWatch p i r).suspended = s.suspended ∧
    (s.clearWatch p i r).pauseOrdered = s.pauseOrdered ∧ (s.clearWatch p i r).banks = s.banks ∧
    (s.clearWatch p i r).pfw = s.pfw ∧ (s.clearWatch p i r).pfwSeen = s.pfwSeen ∧
    (s.clearWatch p i r).fresh = s.fresh := by
  refine ⟨rfl, rfl, rfl, rfl, rfl, rfl, rfl, rfl, rfl, rfl, rfl, rfl, rfl, rfl, rfl, rfl, rfl, rfl, rfl⟩

/-- `parkSync` writes groups, ports alone. -/
@[simp] theorem State.parkSync_frame (s : State) (p : PortId) (f : RequestFrame) (g : GroupId) (captured : Bool) :
    (s.parkSync p f g captured).pending = s.pending ∧ (s.parkSync p f g captured).phase = s.phase ∧
    (s.parkSync p f g captured).slots = s.slots ∧ (s.parkSync p f g captured).index = s.index ∧
    (s.parkSync p f g captured).homeMap = s.homeMap ∧ (s.parkSync p f g captured).events = s.events ∧
    (s.parkSync p f g captured).pointer = s.pointer ∧ (s.parkSync p f g captured).item = s.item ∧
    (s.parkSync p f g captured).time = s.time ∧ (s.parkSync p f g captured).deadlines = s.deadlines ∧
    (s.parkSync p f g captured).serial = s.serial ∧ (s.parkSync p f g captured).queue = s.queue ∧
    (s.parkSync p f g captured).active = s.active ∧ (s.parkSync p f g captured).suspended = s.suspended ∧
    (s.parkSync p f g captured).pauseOrdered = s.pauseOrdered ∧ (s.parkSync p f g captured).banks = s.banks ∧
    (s.parkSync p f g captured).pfw = s.pfw ∧ (s.parkSync p f g captured).pfwSeen = s.pfwSeen ∧
    (s.parkSync p f g captured).fresh = s.fresh := by
  refine ⟨rfl, rfl, rfl, rfl, rfl, rfl, rfl, rfl, rfl, rfl, rfl, rfl, rfl, rfl, rfl, rfl, rfl, rfl, rfl⟩

/-- `answerSync` writes ports alone. -/
@[simp] theorem State.answerSync_frame (s : State) (p : PortId) (f : RequestFrame) (h : HomeId) (st : Status) :
    (s.answerSync p f h st).pending = s.pending ∧ (s.answerSync p f h st).phase = s.phase ∧
    (s.answerSync p f h st).slots = s.slots ∧ (s.answerSync p f h st).index = s.index ∧
    (s.answerSync p f h st).homeMap = s.homeMap ∧ (s.answerSync p f h st).events = s.events ∧
    (s.answerSync p f h st).pointer = s.pointer ∧ (s.answerSync p f h st).item = s.item ∧
    (s.answerSync p f h st).time = s.time ∧ (s.answerSync p f h st).deadlines = s.deadlines ∧
    (s.answerSync p f h st).serial = s.serial ∧ (s.answerSync p f h st).groups = s.groups ∧
    (s.answerSync p f h st).queue = s.queue ∧ (s.answerSync p f h st).active = s.active ∧
    (s.answerSync p f h st).suspended = s.suspended ∧ (s.answerSync p f h st).pauseOrdered = s.pauseOrdered ∧
    (s.answerSync p f h st).banks = s.banks ∧ (s.answerSync p f h st).pfw = s.pfw ∧
    (s.answerSync p f h st).pfwSeen = s.pfwSeen ∧ (s.answerSync p f h st).fresh = s.fresh := by
  refine ⟨rfl, rfl, rfl, rfl, rfl, rfl, rfl, rfl, rfl, rfl, rfl, rfl, rfl, rfl, rfl, rfl, rfl, rfl, rfl, rfl⟩

/-- `answerClear` writes ports alone. -/
@[simp] theorem State.answerClear_frame (s : State) (p : PortId) (f : RequestFrame) (g : GroupId) (st : Status) :
    (s.answerClear p f g st).pending = s.pending ∧ (s.answerClear p f g st).phase = s.phase ∧
    (s.answerClear p f g st).slots = s.slots ∧ (s.answerClear p f g st).index = s.index ∧
    (s.answerClear p f g st).homeMap = s.homeMap ∧ (s.answerClear p f g st).events = s.events ∧
    (s.answerClear p f g st).pointer = s.pointer ∧ (s.answerClear p f g st).item = s.item ∧
    (s.answerClear p f g st).time = s.time ∧ (s.answerClear p f g st).deadlines = s.deadlines ∧
    (s.answerClear p f g st).serial = s.serial ∧ (s.answerClear p f g st).groups = s.groups ∧
    (s.answerClear p f g st).queue = s.queue ∧ (s.answerClear p f g st).active = s.active ∧
    (s.answerClear p f g st).suspended = s.suspended ∧ (s.answerClear p f g st).pauseOrdered = s.pauseOrdered ∧
    (s.answerClear p f g st).banks = s.banks ∧ (s.answerClear p f g st).pfw = s.pfw ∧
    (s.answerClear p f g st).pfwSeen = s.pfwSeen ∧ (s.answerClear p f g st).fresh = s.fresh := by
  refine ⟨rfl, rfl, rfl, rfl, rfl, rfl, rfl, rfl, rfl, rfl, rfl, rfl, rfl, rfl, rfl, rfl, rfl, rfl, rfl, rfl⟩

end Sys2Proof.Machine
end

