-- ==== Sys2Proof/Laws/Frames.lean ====
section
/-! SUPPORT. The frame of each shared operation: every field that it leaves as it was. -/

namespace Sys2Proof.Machine

/-- `engaged` writes events, ports, pointer, item alone. -/
@[simp] theorem State.engaged_frame (s : State) :
    (s.engaged).pending = s.pending ∧ (s.engaged).phase = s.phase ∧ (s.engaged).slots = s.slots ∧
    (s.engaged).index = s.index ∧ (s.engaged).homeMap = s.homeMap ∧ (s.engaged).time = s.time ∧
    (s.engaged).deadlines = s.deadlines ∧ (s.engaged).serial = s.serial ∧ (s.engaged).groups = s.groups ∧
    (s.engaged).queue = s.queue ∧ (s.engaged).active = s.active ∧ (s.engaged).suspended = s.suspended ∧
    (s.engaged).pauseOrdered = s.pauseOrdered ∧ (s.engaged).banks = s.banks ∧ (s.engaged).pfw = s.pfw ∧
    (s.engaged).pfwSeen = s.pfwSeen ∧ (s.engaged).fresh = s.fresh := by
  unfold State.engaged; (repeat' split) <;> simp

/-- `finish` writes events, ports, pointer, item alone. -/
@[simp] theorem State.finish_frame (s : State) :
    (s.finish).pending = s.pending ∧ (s.finish).phase = s.phase ∧ (s.finish).slots = s.slots ∧
    (s.finish).index = s.index ∧ (s.finish).homeMap = s.homeMap ∧ (s.finish).time = s.time ∧
    (s.finish).deadlines = s.deadlines ∧ (s.finish).serial = s.serial ∧ (s.finish).groups = s.groups ∧
    (s.finish).queue = s.queue ∧ (s.finish).active = s.active ∧ (s.finish).suspended = s.suspended ∧
    (s.finish).pauseOrdered = s.pauseOrdered ∧ (s.finish).banks = s.banks ∧ (s.finish).pfw = s.pfw ∧
    (s.finish).pfwSeen = s.pfwSeen ∧ (s.finish).fresh = s.fresh := by
  simp [State.finish]

/-- `raiseAll` writes events, ports, pointer, item alone. -/
@[simp] theorem State.raiseAll_frame (s : State) (es : List Event) :
    (s.raiseAll es).pending = s.pending ∧ (s.raiseAll es).phase = s.phase ∧ (s.raiseAll es).slots = s.slots ∧
    (s.raiseAll es).index = s.index ∧ (s.raiseAll es).homeMap = s.homeMap ∧ (s.raiseAll es).time = s.time ∧
    (s.raiseAll es).deadlines = s.deadlines ∧ (s.raiseAll es).serial = s.serial ∧
    (s.raiseAll es).groups = s.groups ∧ (s.raiseAll es).queue = s.queue ∧ (s.raiseAll es).active = s.active ∧
    (s.raiseAll es).suspended = s.suspended ∧ (s.raiseAll es).pauseOrdered = s.pauseOrdered ∧
    (s.raiseAll es).banks = s.banks ∧ (s.raiseAll es).pfw = s.pfw ∧ (s.raiseAll es).pfwSeen = s.pfwSeen ∧
    (s.raiseAll es).fresh = s.fresh := by
  simp [State.raiseAll]

/-- `raise` writes events, ports, pointer, item alone. -/
@[simp] theorem State.raise_frame (s : State) (e : Event) :
    (s.raise e).pending = s.pending ∧ (s.raise e).phase = s.phase ∧ (s.raise e).slots = s.slots ∧
    (s.raise e).index = s.index ∧ (s.raise e).homeMap = s.homeMap ∧ (s.raise e).time = s.time ∧
    (s.raise e).deadlines = s.deadlines ∧ (s.raise e).serial = s.serial ∧ (s.raise e).groups = s.groups ∧
    (s.raise e).queue = s.queue ∧ (s.raise e).active = s.active ∧ (s.raise e).suspended = s.suspended ∧
    (s.raise e).pauseOrdered = s.pauseOrdered ∧ (s.raise e).banks = s.banks ∧ (s.raise e).pfw = s.pfw ∧
    (s.raise e).pfwSeen = s.pfwSeen ∧ (s.raise e).fresh = s.fresh := by
  simp [State.raise]

/-- `addDeadline` writes events, deadlines, serial alone. -/
@[simp] theorem State.addDeadline_frame (s : State) (kind : DeadlineKind) (key : Key) (port : PortId) (len : Ticks) :
    (s.addDeadline kind key port len).pending = s.pending ∧ (s.addDeadline kind key port len).phase = s.phase ∧
    (s.addDeadline kind key port len).slots = s.slots ∧ (s.addDeadline kind key port len).index = s.index ∧
    (s.addDeadline kind key port len).homeMap = s.homeMap ∧
    (s.addDeadline kind key port len).pointer = s.pointer ∧ (s.addDeadline kind key port len).item = s.item ∧
    (s.addDeadline kind key port len).time = s.time ∧ (s.addDeadline kind key port len).ports = s.ports ∧
    (s.addDeadline kind key port len).groups = s.groups ∧ (s.addDeadline kind key port len).queue = s.queue ∧
    (s.addDeadline kind key port len).active = s.active ∧
    (s.addDeadline kind key port len).suspended = s.suspended ∧
    (s.addDeadline kind key port len).pauseOrdered = s.pauseOrdered ∧
    (s.addDeadline kind key port len).banks = s.banks ∧ (s.addDeadline kind key port len).pfw = s.pfw ∧
    (s.addDeadline kind key port len).pfwSeen = s.pfwSeen ∧ (s.addDeadline kind key port len).fresh = s.fresh := by
  unfold State.addDeadline; (repeat' split) <;> simp

/-- `dirtyMark` writes groups, queue alone. -/
@[simp] theorem State.dirtyMark_frame (s : State) (g : GroupId) :
    (s.dirtyMark g).pending = s.pending ∧ (s.dirtyMark g).phase = s.phase ∧ (s.dirtyMark g).slots = s.slots ∧
    (s.dirtyMark g).index = s.index ∧ (s.dirtyMark g).homeMap = s.homeMap ∧ (s.dirtyMark g).events = s.events ∧
    (s.dirtyMark g).pointer = s.pointer ∧ (s.dirtyMark g).item = s.item ∧ (s.dirtyMark g).time = s.time ∧
    (s.dirtyMark g).deadlines = s.deadlines ∧ (s.dirtyMark g).serial = s.serial ∧
    (s.dirtyMark g).ports = s.ports ∧ (s.dirtyMark g).active = s.active ∧
    (s.dirtyMark g).suspended = s.suspended ∧ (s.dirtyMark g).pauseOrdered = s.pauseOrdered ∧
    (s.dirtyMark g).banks = s.banks ∧ (s.dirtyMark g).pfw = s.pfw ∧ (s.dirtyMark g).pfwSeen = s.pfwSeen ∧
    (s.dirtyMark g).fresh = s.fresh := by
  unfold State.dirtyMark; (repeat' split) <;> simp

/-- `dirtyMarkOf` writes groups, queue alone. -/
@[simp] theorem State.dirtyMarkOf_frame (s : State) (r : Record) :
    (s.dirtyMarkOf r).pending = s.pending ∧ (s.dirtyMarkOf r).phase = s.phase ∧
    (s.dirtyMarkOf r).slots = s.slots ∧ (s.dirtyMarkOf r).index = s.index ∧
    (s.dirtyMarkOf r).homeMap = s.homeMap ∧ (s.dirtyMarkOf r).events = s.events ∧
    (s.dirtyMarkOf r).pointer = s.pointer ∧ (s.dirtyMarkOf r).item = s.item ∧ (s.dirtyMarkOf r).time = s.time ∧
    (s.dirtyMarkOf r).deadlines = s.deadlines ∧ (s.dirtyMarkOf r).serial = s.serial ∧
    (s.dirtyMarkOf r).ports = s.ports ∧ (s.dirtyMarkOf r).active = s.active ∧
    (s.dirtyMarkOf r).suspended = s.suspended ∧ (s.dirtyMarkOf r).pauseOrdered = s.pauseOrdered ∧
    (s.dirtyMarkOf r).banks = s.banks ∧ (s.dirtyMarkOf r).pfw = s.pfw ∧ (s.dirtyMarkOf r).pfwSeen = s.pfwSeen ∧
    (s.dirtyMarkOf r).fresh = s.fresh := by
  unfold State.dirtyMarkOf; (repeat' split) <;> simp

/-- `removeDeadline` writes deadlines alone. -/
@[simp] theorem State.removeDeadline_frame (s : State) (n : Option Serial) :
    (s.removeDeadline n).pending = s.pending ∧ (s.removeDeadline n).phase = s.phase ∧
    (s.removeDeadline n).slots = s.slots ∧ (s.removeDeadline n).index = s.index ∧
    (s.removeDeadline n).homeMap = s.homeMap ∧ (s.removeDeadline n).events = s.events ∧
    (s.removeDeadline n).pointer = s.pointer ∧ (s.removeDeadline n).item = s.item ∧
    (s.removeDeadline n).time = s.time ∧ (s.removeDeadline n).serial = s.serial ∧
    (s.removeDeadline n).ports = s.ports ∧ (s.removeDeadline n).groups = s.groups ∧
    (s.removeDeadline n).queue = s.queue ∧ (s.removeDeadline n).active = s.active ∧
    (s.removeDeadline n).suspended = s.suspended ∧ (s.removeDeadline n).pauseOrdered = s.pauseOrdered ∧
    (s.removeDeadline n).banks = s.banks ∧ (s.removeDeadline n).pfw = s.pfw ∧
    (s.removeDeadline n).pfwSeen = s.pfwSeen ∧ (s.removeDeadline n).fresh = s.fresh := by
  unfold State.removeDeadline; (repeat' split) <;> simp

/-- `vacateHome` writes homeMap, groups, queue alone. -/
@[simp] theorem State.vacateHome_frame (s : State) (r : Record) :
    (s.vacateHome r).pending = s.pending ∧ (s.vacateHome r).phase = s.phase ∧ (s.vacateHome r).slots = s.slots ∧
    (s.vacateHome r).index = s.index ∧ (s.vacateHome r).events = s.events ∧
    (s.vacateHome r).pointer = s.pointer ∧ (s.vacateHome r).item = s.item ∧ (s.vacateHome r).time = s.time ∧
    (s.vacateHome r).deadlines = s.deadlines ∧ (s.vacateHome r).serial = s.serial ∧
    (s.vacateHome r).ports = s.ports ∧ (s.vacateHome r).active = s.active ∧
    (s.vacateHome r).suspended = s.suspended ∧ (s.vacateHome r).pauseOrdered = s.pauseOrdered ∧
    (s.vacateHome r).banks = s.banks ∧ (s.vacateHome r).pfw = s.pfw ∧ (s.vacateHome r).pfwSeen = s.pfwSeen ∧
    (s.vacateHome r).fresh = s.fresh := by
  unfold State.vacateHome; (repeat' split) <;> simp

/-- `remove` writes slots, index, homeMap, groups, queue, ports alone. -/
@[simp] theorem State.remove_frame (s : State) (i : Slot) :
    (s.remove i).pending = s.pending ∧ (s.remove i).phase = s.phase ∧ (s.remove i).events = s.events ∧
    (s.remove i).pointer = s.pointer ∧ (s.remove i).item = s.item ∧ (s.remove i).time = s.time ∧
    (s.remove i).deadlines = s.deadlines ∧ (s.remove i).serial = s.serial ∧ (s.remove i).active = s.active ∧
    (s.remove i).suspended = s.suspended ∧ (s.remove i).pauseOrdered = s.pauseOrdered ∧
    (s.remove i).banks = s.banks ∧ (s.remove i).pfw = s.pfw ∧ (s.remove i).pfwSeen = s.pfwSeen ∧
    (s.remove i).fresh = s.fresh := by
  unfold State.remove; (repeat' split) <;> simp

/-- `grant` writes slots, events, deadlines, serial alone. -/
@[simp] theorem State.grant_frame (s : State) (i : Slot) (r : Record) (p : PortId) (len : Ticks) :
    (s.grant i r p len).pending = s.pending ∧ (s.grant i r p len).phase = s.phase ∧
    (s.grant i r p len).index = s.index ∧ (s.grant i r p len).homeMap = s.homeMap ∧
    (s.grant i r p len).pointer = s.pointer ∧ (s.grant i r p len).item = s.item ∧
    (s.grant i r p len).time = s.time ∧ (s.grant i r p len).ports = s.ports ∧
    (s.grant i r p len).groups = s.groups ∧ (s.grant i r p len).queue = s.queue ∧
    (s.grant i r p len).active = s.active ∧ (s.grant i r p len).suspended = s.suspended ∧
    (s.grant i r p len).pauseOrdered = s.pauseOrdered ∧ (s.grant i r p len).banks = s.banks ∧
    (s.grant i r p len).pfw = s.pfw ∧ (s.grant i r p len).pfwSeen = s.pfwSeen ∧
    (s.grant i r p len).fresh = s.fresh := by
  unfold State.grant; (repeat' split) <;> simp

/-- `notifyHolder` writes ports alone. -/
@[simp] theorem State.notifyHolder_frame (s : State) (i : Slot) :
    (s.notifyHolder i).pending = s.pending ∧ (s.notifyHolder i).phase = s.phase ∧
    (s.notifyHolder i).slots = s.slots ∧ (s.notifyHolder i).index = s.index ∧
    (s.notifyHolder i).homeMap = s.homeMap ∧ (s.notifyHolder i).events = s.events ∧
    (s.notifyHolder i).pointer = s.pointer ∧ (s.notifyHolder i).item = s.item ∧
    (s.notifyHolder i).time = s.time ∧ (s.notifyHolder i).deadlines = s.deadlines ∧
    (s.notifyHolder i).serial = s.serial ∧ (s.notifyHolder i).groups = s.groups ∧
    (s.notifyHolder i).queue = s.queue ∧ (s.notifyHolder i).active = s.active ∧
    (s.notifyHolder i).suspended = s.suspended ∧ (s.notifyHolder i).pauseOrdered = s.pauseOrdered ∧
    (s.notifyHolder i).banks = s.banks ∧ (s.notifyHolder i).pfw = s.pfw ∧
    (s.notifyHolder i).pfwSeen = s.pfwSeen ∧ (s.notifyHolder i).fresh = s.fresh := by
  unfold State.notifyHolder; (repeat' split) <;> simp

/-- `fillGranted` writes ports alone. -/
@[simp] theorem State.fillGranted_frame (s : State) (w : ParkedClaim) (parked : Nat) :
    (s.fillGranted w parked).pending = s.pending ∧ (s.fillGranted w parked).phase = s.phase ∧
    (s.fillGranted w parked).slots = s.slots ∧ (s.fillGranted w parked).index = s.index ∧
    (s.fillGranted w parked).homeMap = s.homeMap ∧ (s.fillGranted w parked).events = s.events ∧
    (s.fillGranted w parked).pointer = s.pointer ∧ (s.fillGranted w parked).item = s.item ∧
    (s.fillGranted w parked).time = s.time ∧ (s.fillGranted w parked).deadlines = s.deadlines ∧
    (s.fillGranted w parked).serial = s.serial ∧ (s.fillGranted w parked).groups = s.groups ∧
    (s.fillGranted w parked).queue = s.queue ∧ (s.fillGranted w parked).active = s.active ∧
    (s.fillGranted w parked).suspended = s.suspended ∧ (s.fillGranted w parked).pauseOrdered = s.pauseOrdered ∧
    (s.fillGranted w parked).banks = s.banks ∧ (s.fillGranted w parked).pfw = s.pfw ∧
    (s.fillGranted w parked).pfwSeen = s.pfwSeen ∧ (s.fillGranted w parked).fresh = s.fresh := by
  simp [State.fillGranted]

/-- `fillClaim` writes ports alone. -/
@[simp] theorem State.fillClaim_frame (s : State) (i : Slot) (w : ParkedClaim) (st : Status) :
    (s.fillClaim i w st).pending = s.pending ∧ (s.fillClaim i w st).phase = s.phase ∧
    (s.fillClaim i w st).slots = s.slots ∧ (s.fillClaim i w st).index = s.index ∧
    (s.fillClaim i w st).homeMap = s.homeMap ∧ (s.fillClaim i w st).events = s.events ∧
    (s.fillClaim i w st).pointer = s.pointer ∧ (s.fillClaim i w st).item = s.item ∧
    (s.fillClaim i w st).time = s.time ∧ (s.fillClaim i w st).deadlines = s.deadlines ∧
    (s.fillClaim i w st).serial = s.serial ∧ (s.fillClaim i w st).groups = s.groups ∧
    (s.fillClaim i w st).queue = s.queue ∧ (s.fillClaim i w st).active = s.active ∧
    (s.fillClaim i w st).suspended = s.suspended ∧ (s.fillClaim i w st).pauseOrdered = s.pauseOrdered ∧
    (s.fillClaim i w st).banks = s.banks ∧ (s.fillClaim i w st).pfw = s.pfw ∧
    (s.fillClaim i w st).pfwSeen = s.pfwSeen ∧ (s.fillClaim i w st).fresh = s.fresh := by
  unfold State.fillClaim; (repeat' split) <;> simp

/-- `dropClaim` writes deadlines, ports alone. -/
@[simp] theorem State.dropClaim_frame (s : State) (w : ParkedClaim) :
    (s.dropClaim w).pending = s.pending ∧ (s.dropClaim w).phase = s.phase ∧ (s.dropClaim w).slots = s.slots ∧
    (s.dropClaim w).index = s.index ∧ (s.dropClaim w).homeMap = s.homeMap ∧ (s.dropClaim w).events = s.events ∧
    (s.dropClaim w).pointer = s.pointer ∧ (s.dropClaim w).item = s.item ∧ (s.dropClaim w).time = s.time ∧
    (s.dropClaim w).serial = s.serial ∧ (s.dropClaim w).groups = s.groups ∧ (s.dropClaim w).queue = s.queue ∧
    (s.dropClaim w).active = s.active ∧ (s.dropClaim w).suspended = s.suspended ∧
    (s.dropClaim w).pauseOrdered = s.pauseOrdered ∧ (s.dropClaim w).banks = s.banks ∧
    (s.dropClaim w).pfw = s.pfw ∧ (s.dropClaim w).pfwSeen = s.pfwSeen ∧ (s.dropClaim w).fresh = s.fresh := by
  simp [State.dropClaim]

/-- `handoff` writes slots, index, homeMap, groups, queue, ports, events, deadlines, serial alone. -/
@[simp] theorem State.handoff_frame (s : State) (i : Slot) :
    (s.handoff i).pending = s.pending ∧ (s.handoff i).phase = s.phase ∧ (s.handoff i).pointer = s.pointer ∧
    (s.handoff i).item = s.item ∧ (s.handoff i).time = s.time ∧ (s.handoff i).active = s.active ∧
    (s.handoff i).suspended = s.suspended ∧ (s.handoff i).pauseOrdered = s.pauseOrdered ∧
    (s.handoff i).banks = s.banks ∧ (s.handoff i).pfw = s.pfw ∧ (s.handoff i).pfwSeen = s.pfwSeen ∧
    (s.handoff i).fresh = s.fresh := by
  unfold State.handoff; (repeat' split) <;> simp

/-- `leaseLost` writes ports alone. -/
@[simp] theorem State.leaseLost_frame (s : State) (r : Record) :
    (s.leaseLost r).pending = s.pending ∧ (s.leaseLost r).phase = s.phase ∧ (s.leaseLost r).slots = s.slots ∧
    (s.leaseLost r).index = s.index ∧ (s.leaseLost r).homeMap = s.homeMap ∧ (s.leaseLost r).events = s.events ∧
    (s.leaseLost r).pointer = s.pointer ∧ (s.leaseLost r).item = s.item ∧ (s.leaseLost r).time = s.time ∧
    (s.leaseLost r).deadlines = s.deadlines ∧ (s.leaseLost r).serial = s.serial ∧
    (s.leaseLost r).groups = s.groups ∧ (s.leaseLost r).queue = s.queue ∧ (s.leaseLost r).active = s.active ∧
    (s.leaseLost r).suspended = s.suspended ∧ (s.leaseLost r).pauseOrdered = s.pauseOrdered ∧
    (s.leaseLost r).banks = s.banks ∧ (s.leaseLost r).pfw = s.pfw ∧ (s.leaseLost r).pfwSeen = s.pfwSeen ∧
    (s.leaseLost r).fresh = s.fresh := by
  unfold State.leaseLost; (repeat' split) <;> simp

/-- `dropHold` writes slots, deadlines alone. -/
@[simp] theorem State.dropHold_frame (s : State) (i : Slot) (r : Record) :
    (s.dropHold i r).pending = s.pending ∧ (s.dropHold i r).phase = s.phase ∧ (s.dropHold i r).index = s.index ∧
    (s.dropHold i r).homeMap = s.homeMap ∧ (s.dropHold i r).events = s.events ∧
    (s.dropHold i r).pointer = s.pointer ∧ (s.dropHold i r).item = s.item ∧ (s.dropHold i r).time = s.time ∧
    (s.dropHold i r).serial = s.serial ∧ (s.dropHold i r).ports = s.ports ∧ (s.dropHold i r).groups = s.groups ∧
    (s.dropHold i r).queue = s.queue ∧ (s.dropHold i r).active = s.active ∧
    (s.dropHold i r).suspended = s.suspended ∧ (s.dropHold i r).pauseOrdered = s.pauseOrdered ∧
    (s.dropHold i r).banks = s.banks ∧ (s.dropHold i r).pfw = s.pfw ∧ (s.dropHold i r).pfwSeen = s.pfwSeen ∧
    (s.dropHold i r).fresh = s.fresh := by
  simp [State.dropHold]

/-- `endHold` writes slots, index, homeMap, groups, queue, ports, events, deadlines, serial alone. -/
@[simp] theorem State.endHold_frame (s : State) (i : Slot) (expired : Bool) :
    (s.endHold i expired).pending = s.pending ∧ (s.endHold i expired).phase = s.phase ∧
    (s.endHold i expired).pointer = s.pointer ∧ (s.endHold i expired).item = s.item ∧
    (s.endHold i expired).time = s.time ∧ (s.endHold i expired).active = s.active ∧
    (s.endHold i expired).suspended = s.suspended ∧ (s.endHold i expired).pauseOrdered = s.pauseOrdered ∧
    (s.endHold i expired).banks = s.banks ∧ (s.endHold i expired).pfw = s.pfw ∧
    (s.endHold i expired).pfwSeen = s.pfwSeen ∧ (s.endHold i expired).fresh = s.fresh := by
  unfold State.endHold; (repeat' split) <;> simp

/-- `withdrawClaim` writes slots, deadlines, ports alone. -/
@[simp] theorem State.withdrawClaim_frame (s : State) (i : Slot) (w : ParkedClaim) :
    (s.withdrawClaim i w).pending = s.pending ∧ (s.withdrawClaim i w).phase = s.phase ∧
    (s.withdrawClaim i w).index = s.index ∧ (s.withdrawClaim i w).homeMap = s.homeMap ∧
    (s.withdrawClaim i w).events = s.events ∧ (s.withdrawClaim i w).pointer = s.pointer ∧
    (s.withdrawClaim i w).item = s.item ∧ (s.withdrawClaim i w).time = s.time ∧
    (s.withdrawClaim i w).serial = s.serial ∧ (s.withdrawClaim i w).groups = s.groups ∧
    (s.withdrawClaim i w).queue = s.queue ∧ (s.withdrawClaim i w).active = s.active ∧
    (s.withdrawClaim i w).suspended = s.suspended ∧ (s.withdrawClaim i w).pauseOrdered = s.pauseOrdered ∧
    (s.withdrawClaim i w).banks = s.banks ∧ (s.withdrawClaim i w).pfw = s.pfw ∧
    (s.withdrawClaim i w).pfwSeen = s.pfwSeen ∧ (s.withdrawClaim i w).fresh = s.fresh := by
  unfold State.withdrawClaim; (repeat' split) <;> simp

/-- `endClaim` writes slots, deadlines, ports alone. -/
@[simp] theorem State.endClaim_frame (s : State) (i : Slot) (w : ParkedClaim) (st : Status) :
    (s.endClaim i w st).pending = s.pending ∧ (s.endClaim i w st).phase = s.phase ∧
    (s.endClaim i w st).index = s.index ∧ (s.endClaim i w st).homeMap = s.homeMap ∧
    (s.endClaim i w st).events = s.events ∧ (s.endClaim i w st).pointer = s.pointer ∧
    (s.endClaim i w st).item = s.item ∧ (s.endClaim i w st).time = s.time ∧
    (s.endClaim i w st).serial = s.serial ∧ (s.endClaim i w st).groups = s.groups ∧
    (s.endClaim i w st).queue = s.queue ∧ (s.endClaim i w st).active = s.active ∧
    (s.endClaim i w st).suspended = s.suspended ∧ (s.endClaim i w st).pauseOrdered = s.pauseOrdered ∧
    (s.endClaim i w st).banks = s.banks ∧ (s.endClaim i w st).pfw = s.pfw ∧
    (s.endClaim i w st).pfwSeen = s.pfwSeen ∧ (s.endClaim i w st).fresh = s.fresh := by
  simp [State.endClaim]

/-- `answerRetired` writes deadlines, ports alone. -/
@[simp] theorem State.answerRetired_frame (s : State) (ws : List ParkedClaim) (b : HoldBlock) :
    (s.answerRetired ws b).pending = s.pending ∧ (s.answerRetired ws b).phase = s.phase ∧
    (s.answerRetired ws b).slots = s.slots ∧ (s.answerRetired ws b).index = s.index ∧
    (s.answerRetired ws b).homeMap = s.homeMap ∧ (s.answerRetired ws b).events = s.events ∧
    (s.answerRetired ws b).pointer = s.pointer ∧ (s.answerRetired ws b).item = s.item ∧
    (s.answerRetired ws b).time = s.time ∧ (s.answerRetired ws b).serial = s.serial ∧
    (s.answerRetired ws b).groups = s.groups ∧ (s.answerRetired ws b).queue = s.queue ∧
    (s.answerRetired ws b).active = s.active ∧ (s.answerRetired ws b).suspended = s.suspended ∧
    (s.answerRetired ws b).pauseOrdered = s.pauseOrdered ∧ (s.answerRetired ws b).banks = s.banks ∧
    (s.answerRetired ws b).pfw = s.pfw ∧ (s.answerRetired ws b).pfwSeen = s.pfwSeen ∧
    (s.answerRetired ws b).fresh = s.fresh := by
  induction ws generalizing s with
  | nil => simp [State.answerRetired]
  | cons x rest ih => simp [State.answerRetired, ih]

/-- `cutOff` writes banks, fresh alone. -/
@[simp] theorem State.cutOff_frame (s : State) (g : GroupId) :
    (s.cutOff g).pending = s.pending ∧ (s.cutOff g).phase = s.phase ∧ (s.cutOff g).slots = s.slots ∧
    (s.cutOff g).index = s.index ∧ (s.cutOff g).homeMap = s.homeMap ∧ (s.cutOff g).events = s.events ∧
    (s.cutOff g).pointer = s.pointer ∧ (s.cutOff g).item = s.item ∧ (s.cutOff g).time = s.time ∧
    (s.cutOff g).deadlines = s.deadlines ∧ (s.cutOff g).serial = s.serial ∧ (s.cutOff g).ports = s.ports ∧
    (s.cutOff g).groups = s.groups ∧ (s.cutOff g).queue = s.queue ∧ (s.cutOff g).active = s.active ∧
    (s.cutOff g).suspended = s.suspended ∧ (s.cutOff g).pauseOrdered = s.pauseOrdered ∧
    (s.cutOff g).pfw = s.pfw ∧ (s.cutOff g).pfwSeen = s.pfwSeen := by
  unfold State.cutOff; (repeat' split) <;> simp

/-- `cutOffRewrite` writes banks, fresh alone. -/
@[simp] theorem State.cutOffRewrite_frame (s : State) (g : Option GroupId) :
    (s.cutOffRewrite g).pending = s.pending ∧ (s.cutOffRewrite g).phase = s.phase ∧
    (s.cutOffRewrite g).slots = s.slots ∧ (s.cutOffRewrite g).index = s.index ∧
    (s.cutOffRewrite g).homeMap = s.homeMap ∧ (s.cutOffRewrite g).events = s.events ∧
    (s.cutOffRewrite g).pointer = s.pointer ∧ (s.cutOffRewrite g).item = s.item ∧
    (s.cutOffRewrite g).time = s.time ∧ (s.cutOffRewrite g).deadlines = s.deadlines ∧
    (s.cutOffRewrite g).serial = s.serial ∧ (s.cutOffRewrite g).ports = s.ports ∧
    (s.cutOffRewrite g).groups = s.groups ∧ (s.cutOffRewrite g).queue = s.queue ∧
    (s.cutOffRewrite g).active = s.active ∧ (s.cutOffRewrite g).suspended = s.suspended ∧
    (s.cutOffRewrite g).pauseOrdered = s.pauseOrdered ∧ (s.cutOffRewrite g).pfw = s.pfw ∧
    (s.cutOffRewrite g).pfwSeen = s.pfwSeen := by
  unfold State.cutOffRewrite; (repeat' split) <;> simp

/-- `startHead` writes groups, queue, active, events, ports, pointer, item alone. -/
@[simp] theorem State.startHead_frame (s : State) :
    (s.startHead).pending = s.pending ∧ (s.startHead).phase = s.phase ∧ (s.startHead).slots = s.slots ∧
    (s.startHead).index = s.index ∧ (s.startHead).homeMap = s.homeMap ∧ (s.startHead).time = s.time ∧
    (s.startHead).deadlines = s.deadlines ∧ (s.startHead).serial = s.serial ∧
    (s.startHead).suspended = s.suspended ∧ (s.startHead).pauseOrdered = s.pauseOrdered ∧
    (s.startHead).banks = s.banks ∧ (s.startHead).pfw = s.pfw ∧ (s.startHead).pfwSeen = s.pfwSeen ∧
    (s.startHead).fresh = s.fresh := by
  unfold State.startHead; (repeat' split) <;> simp

/-- `resume` writes groups, active, suspended alone. -/
@[simp] theorem State.resume_frame (s : State) (g : GroupId) :
    (s.resume g).pending = s.pending ∧ (s.resume g).phase = s.phase ∧ (s.resume g).slots = s.slots ∧
    (s.resume g).index = s.index ∧ (s.resume g).homeMap = s.homeMap ∧ (s.resume g).events = s.events ∧
    (s.resume g).pointer = s.pointer ∧ (s.resume g).item = s.item ∧ (s.resume g).time = s.time ∧
    (s.resume g).deadlines = s.deadlines ∧ (s.resume g).serial = s.serial ∧ (s.resume g).ports = s.ports ∧
    (s.resume g).queue = s.queue ∧ (s.resume g).pauseOrdered = s.pauseOrdered ∧ (s.resume g).banks = s.banks ∧
    (s.resume g).pfw = s.pfw ∧ (s.resume g).pfwSeen = s.pfwSeen ∧ (s.resume g).fresh = s.fresh := by
  unfold State.resume; (repeat' split) <;> simp

/-- `startWork` writes groups, queue, active, suspended, events, ports, pointer, item alone. -/
@[simp] theorem State.startWork_frame (s : State) :
    (s.startWork).pending = s.pending ∧ (s.startWork).phase = s.phase ∧ (s.startWork).slots = s.slots ∧
    (s.startWork).index = s.index ∧ (s.startWork).homeMap = s.homeMap ∧ (s.startWork).time = s.time ∧
    (s.startWork).deadlines = s.deadlines ∧ (s.startWork).serial = s.serial ∧
    (s.startWork).pauseOrdered = s.pauseOrdered ∧ (s.startWork).banks = s.banks ∧ (s.startWork).pfw = s.pfw ∧
    (s.startWork).pfwSeen = s.pfwSeen ∧ (s.startWork).fresh = s.fresh := by
  unfold State.startWork; (repeat' split) <;> simp

/-- `fault` writes groups, queue, active, suspended, events, ports, pointer, item alone. -/
@[simp] theorem State.fault_frame (s : State) (g : GroupId) :
    (s.fault g).pending = s.pending ∧ (s.fault g).phase = s.phase ∧ (s.fault g).slots = s.slots ∧
    (s.fault g).index = s.index ∧ (s.fault g).homeMap = s.homeMap ∧ (s.fault g).time = s.time ∧
    (s.fault g).deadlines = s.deadlines ∧ (s.fault g).serial = s.serial ∧
    (s.fault g).pauseOrdered = s.pauseOrdered ∧ (s.fault g).banks = s.banks ∧ (s.fault g).pfw = s.pfw ∧
    (s.fault g).pfwSeen = s.pfwSeen ∧ (s.fault g).fresh = s.fresh := by
  simp [State.fault]

/-- `rewriteFails` writes groups, queue, active, suspended, events, ports, pointer, item, pauseOrdered alone. -/
@[simp] theorem State.rewriteFails_frame (s : State) (g : GroupId) (attempt : Attempt) :
    (s.rewriteFails g attempt).pending = s.pending ∧ (s.rewriteFails g attempt).phase = s.phase ∧
    (s.rewriteFails g attempt).slots = s.slots ∧ (s.rewriteFails g attempt).index = s.index ∧
    (s.rewriteFails g attempt).homeMap = s.homeMap ∧ (s.rewriteFails g attempt).time = s.time ∧
    (s.rewriteFails g attempt).deadlines = s.deadlines ∧ (s.rewriteFails g attempt).serial = s.serial ∧
    (s.rewriteFails g attempt).banks = s.banks ∧ (s.rewriteFails g attempt).pfw = s.pfw ∧
    (s.rewriteFails g attempt).pfwSeen = s.pfwSeen ∧ (s.rewriteFails g attempt).fresh = s.fresh := by
  unfold State.rewriteFails; (repeat' split) <;> simp

/-- `switch` writes groups, queue, active, suspended, events, ports, pointer, item alone. -/
@[simp] theorem State.switch_frame (s : State) (g : GroupId) (capture : Vector CapturedHome 16) :
    (s.switch g capture).pending = s.pending ∧ (s.switch g capture).phase = s.phase ∧
    (s.switch g capture).slots = s.slots ∧ (s.switch g capture).index = s.index ∧
    (s.switch g capture).homeMap = s.homeMap ∧ (s.switch g capture).time = s.time ∧
    (s.switch g capture).deadlines = s.deadlines ∧ (s.switch g capture).serial = s.serial ∧
    (s.switch g capture).pauseOrdered = s.pauseOrdered ∧ (s.switch g capture).banks = s.banks ∧
    (s.switch g capture).pfw = s.pfw ∧ (s.switch g capture).pfwSeen = s.pfwSeen ∧
    (s.switch g capture).fresh = s.fresh := by
  simp [State.switch]

/-- `fillSync` writes ports, fresh alone. -/
@[simp] theorem State.fillSync_frame (s : State) (g : GroupId) (w : ParkedSync) (st : Status) :
    (s.fillSync g w st).pending = s.pending ∧ (s.fillSync g w st).phase = s.phase ∧
    (s.fillSync g w st).slots = s.slots ∧ (s.fillSync g w st).index = s.index ∧
    (s.fillSync g w st).homeMap = s.homeMap ∧ (s.fillSync g w st).events = s.events ∧
    (s.fillSync g w st).pointer = s.pointer ∧ (s.fillSync g w st).item = s.item ∧
    (s.fillSync g w st).time = s.time ∧ (s.fillSync g w st).deadlines = s.deadlines ∧
    (s.fillSync g w st).serial = s.serial ∧ (s.fillSync g w st).groups = s.groups ∧
    (s.fillSync g w st).queue = s.queue ∧ (s.fillSync g w st).active = s.active ∧
    (s.fillSync g w st).suspended = s.suspended ∧ (s.fillSync g w st).pauseOrdered = s.pauseOrdered ∧
    (s.fillSync g w st).banks = s.banks ∧ (s.fillSync g w st).pfw = s.pfw ∧
    (s.fillSync g w st).pfwSeen = s.pfwSeen := by
  simp [State.fillSync]

/-- `fillSyncs` writes ports, fresh alone. -/
@[simp] theorem State.fillSyncs_frame (s : State) (g : GroupId) (ws : List ParkedSync) (st : Status) :
    (s.fillSyncs g ws st).pending = s.pending ∧ (s.fillSyncs g ws st).phase = s.phase ∧
    (s.fillSyncs g ws st).slots = s.slots ∧ (s.fillSyncs g ws st).index = s.index ∧
    (s.fillSyncs g ws st).homeMap = s.homeMap ∧ (s.fillSyncs g ws st).events = s.events ∧
    (s.fillSyncs g ws st).pointer = s.pointer ∧ (s.fillSyncs g ws st).item = s.item ∧
    (s.fillSyncs g ws st).time = s.time ∧ (s.fillSyncs g ws st).deadlines = s.deadlines ∧
    (s.fillSyncs g ws st).serial = s.serial ∧ (s.fillSyncs g ws st).groups = s.groups ∧
    (s.fillSyncs g ws st).queue = s.queue ∧ (s.fillSyncs g ws st).active = s.active ∧
    (s.fillSyncs g ws st).suspended = s.suspended ∧ (s.fillSyncs g ws st).pauseOrdered = s.pauseOrdered ∧
    (s.fillSyncs g ws st).banks = s.banks ∧ (s.fillSyncs g ws st).pfw = s.pfw ∧
    (s.fillSyncs g ws st).pfwSeen = s.pfwSeen := by
  induction ws generalizing s with
  | nil => simp [State.fillSyncs]
  | cons x rest ih => simp [State.fillSyncs, ih]

/-- `answerSyncs` writes groups, ports, fresh alone. -/
@[simp] theorem State.answerSyncs_frame (s : State) (g : GroupId) (which : ParkedSync → Bool) (st : Status) :
    (s.answerSyncs g which st).pending = s.pending ∧ (s.answerSyncs g which st).phase = s.phase ∧
    (s.answerSyncs g which st).slots = s.slots ∧ (s.answerSyncs g which st).index = s.index ∧
    (s.answerSyncs g which st).homeMap = s.homeMap ∧ (s.answerSyncs g which st).events = s.events ∧
    (s.answerSyncs g which st).pointer = s.pointer ∧ (s.answerSyncs g which st).item = s.item ∧
    (s.answerSyncs g which st).time = s.time ∧ (s.answerSyncs g which st).deadlines = s.deadlines ∧
    (s.answerSyncs g which st).serial = s.serial ∧ (s.answerSyncs g which st).queue = s.queue ∧
    (s.answerSyncs g which st).active = s.active ∧ (s.answerSyncs g which st).suspended = s.suspended ∧
    (s.answerSyncs g which st).pauseOrdered = s.pauseOrdered ∧ (s.answerSyncs g which st).banks = s.banks ∧
    (s.answerSyncs g which st).pfw = s.pfw ∧ (s.answerSyncs g which st).pfwSeen = s.pfwSeen := by
  simp [State.answerSyncs]

/-- `cutOffRewrites` writes banks, fresh alone. -/
@[simp] theorem State.cutOffRewrites_frame (s : State) :
    (s.cutOffRewrites).pending = s.pending ∧ (s.cutOffRewrites).phase = s.phase ∧
    (s.cutOffRewrites).slots = s.slots ∧ (s.cutOffRewrites).index = s.index ∧
    (s.cutOffRewrites).homeMap = s.homeMap ∧ (s.cutOffRewrites).events = s.events ∧
    (s.cutOffRewrites).pointer = s.pointer ∧ (s.cutOffRewrites).item = s.item ∧
    (s.cutOffRewrites).time = s.time ∧ (s.cutOffRewrites).deadlines = s.deadlines ∧
    (s.cutOffRewrites).serial = s.serial ∧ (s.cutOffRewrites).ports = s.ports ∧
    (s.cutOffRewrites).groups = s.groups ∧ (s.cutOffRewrites).queue = s.queue ∧
    (s.cutOffRewrites).active = s.active ∧ (s.cutOffRewrites).suspended = s.suspended ∧
    (s.cutOffRewrites).pauseOrdered = s.pauseOrdered ∧ (s.cutOffRewrites).pfw = s.pfw ∧
    (s.cutOffRewrites).pfwSeen = s.pfwSeen := by
  simp [State.cutOffRewrites]

/-- `install` writes slots, index, homeMap alone. -/
@[simp] theorem State.install_frame (s : State) (i : Slot) (r : Record) :
    (s.install i r).pending = s.pending ∧ (s.install i r).phase = s.phase ∧ (s.install i r).events = s.events ∧
    (s.install i r).pointer = s.pointer ∧ (s.install i r).item = s.item ∧ (s.install i r).time = s.time ∧
    (s.install i r).deadlines = s.deadlines ∧ (s.install i r).serial = s.serial ∧
    (s.install i r).ports = s.ports ∧ (s.install i r).groups = s.groups ∧ (s.install i r).queue = s.queue ∧
    (s.install i r).active = s.active ∧ (s.install i r).suspended = s.suspended ∧
    (s.install i r).pauseOrdered = s.pauseOrdered ∧ (s.install i r).banks = s.banks ∧
    (s.install i r).pfw = s.pfw ∧ (s.install i r).pfwSeen = s.pfwSeen ∧ (s.install i r).fresh = s.fresh := by
  unfold State.install; (repeat' split) <;> simp

/-- `restoreHome` writes slots, index, homeMap alone. -/
@[simp] theorem State.restoreHome_frame (s : State) (m : Memory) (g : GroupId) (h : Fin 16) :
    (s.restoreHome m g h).pending = s.pending ∧ (s.restoreHome m g h).phase = s.phase ∧
    (s.restoreHome m g h).events = s.events ∧ (s.restoreHome m g h).pointer = s.pointer ∧
    (s.restoreHome m g h).item = s.item ∧ (s.restoreHome m g h).time = s.time ∧
    (s.restoreHome m g h).deadlines = s.deadlines ∧ (s.restoreHome m g h).serial = s.serial ∧
    (s.restoreHome m g h).ports = s.ports ∧ (s.restoreHome m g h).groups = s.groups ∧
    (s.restoreHome m g h).queue = s.queue ∧ (s.restoreHome m g h).active = s.active ∧
    (s.restoreHome m g h).suspended = s.suspended ∧ (s.restoreHome m g h).pauseOrdered = s.pauseOrdered ∧
    (s.restoreHome m g h).banks = s.banks ∧ (s.restoreHome m g h).pfw = s.pfw ∧
    (s.restoreHome m g h).pfwSeen = s.pfwSeen ∧ (s.restoreHome m g h).fresh = s.fresh := by
  unfold State.restoreHome; (repeat' split) <;> simp

/-- `restoreHomes` writes slots, index, homeMap alone. -/
@[simp] theorem State.restoreHomes_frame (s : State) (m : Memory) (g : GroupId) (hs : List (Fin 16)) :
    (s.restoreHomes m g hs).pending = s.pending ∧ (s.restoreHomes m g hs).phase = s.phase ∧
    (s.restoreHomes m g hs).events = s.events ∧ (s.restoreHomes m g hs).pointer = s.pointer ∧
    (s.restoreHomes m g hs).item = s.item ∧ (s.restoreHomes m g hs).time = s.time ∧
    (s.restoreHomes m g hs).deadlines = s.deadlines ∧ (s.restoreHomes m g hs).serial = s.serial ∧
    (s.restoreHomes m g hs).ports = s.ports ∧ (s.restoreHomes m g hs).groups = s.groups ∧
    (s.restoreHomes m g hs).queue = s.queue ∧ (s.restoreHomes m g hs).active = s.active ∧
    (s.restoreHomes m g hs).suspended = s.suspended ∧ (s.restoreHomes m g hs).pauseOrdered = s.pauseOrdered ∧
    (s.restoreHomes m g hs).banks = s.banks ∧ (s.restoreHomes m g hs).pfw = s.pfw ∧
    (s.restoreHomes m g hs).pfwSeen = s.pfwSeen ∧ (s.restoreHomes m g hs).fresh = s.fresh := by
  induction hs generalizing s with
  | nil => simp [State.restoreHomes]
  | cons x rest ih => simp [State.restoreHomes, ih]

/-- `restoreGroup` writes slots, index, homeMap, groups alone. -/
@[simp] theorem State.restoreGroup_frame (s : State) (g : GroupId) :
    (s.restoreGroup g).pending = s.pending ∧ (s.restoreGroup g).phase = s.phase ∧
    (s.restoreGroup g).events = s.events ∧ (s.restoreGroup g).pointer = s.pointer ∧
    (s.restoreGroup g).item = s.item ∧ (s.restoreGroup g).time = s.time ∧
    (s.restoreGroup g).deadlines = s.deadlines ∧ (s.restoreGroup g).serial = s.serial ∧
    (s.restoreGroup g).ports = s.ports ∧ (s.restoreGroup g).queue = s.queue ∧
    (s.restoreGroup g).active = s.active ∧ (s.restoreGroup g).suspended = s.suspended ∧
    (s.restoreGroup g).pauseOrdered = s.pauseOrdered ∧ (s.restoreGroup g).banks = s.banks ∧
    (s.restoreGroup g).pfw = s.pfw ∧ (s.restoreGroup g).pfwSeen = s.pfwSeen ∧
    (s.restoreGroup g).fresh = s.fresh := by
  unfold State.restoreGroup; dsimp only; split <;> simp

/-- `restoreGroups` writes slots, index, homeMap, groups alone. -/
@[simp] theorem State.restoreGroups_frame (s : State) (gs : List GroupId) :
    (s.restoreGroups gs).pending = s.pending ∧ (s.restoreGroups gs).phase = s.phase ∧
    (s.restoreGroups gs).events = s.events ∧ (s.restoreGroups gs).pointer = s.pointer ∧
    (s.restoreGroups gs).item = s.item ∧ (s.restoreGroups gs).time = s.time ∧
    (s.restoreGroups gs).deadlines = s.deadlines ∧ (s.restoreGroups gs).serial = s.serial ∧
    (s.restoreGroups gs).ports = s.ports ∧ (s.restoreGroups gs).queue = s.queue ∧
    (s.restoreGroups gs).active = s.active ∧ (s.restoreGroups gs).suspended = s.suspended ∧
    (s.restoreGroups gs).pauseOrdered = s.pauseOrdered ∧ (s.restoreGroups gs).banks = s.banks ∧
    (s.restoreGroups gs).pfw = s.pfw ∧ (s.restoreGroups gs).pfwSeen = s.pfwSeen ∧
    (s.restoreGroups gs).fresh = s.fresh := by
  induction gs generalizing s with
  | nil => simp [State.restoreGroups]
  | cons x rest ih => simp [State.restoreGroups, ih]

/-- `restoreLostNotice` writes ports alone. -/
@[simp] theorem State.restoreLostNotice_frame (s : State) (g : GroupId) :
    (s.restoreLostNotice g).pending = s.pending ∧ (s.restoreLostNotice g).phase = s.phase ∧
    (s.restoreLostNotice g).slots = s.slots ∧ (s.restoreLostNotice g).index = s.index ∧
    (s.restoreLostNotice g).homeMap = s.homeMap ∧ (s.restoreLostNotice g).events = s.events ∧
    (s.restoreLostNotice g).pointer = s.pointer ∧ (s.restoreLostNotice g).item = s.item ∧
    (s.restoreLostNotice g).time = s.time ∧ (s.restoreLostNotice g).deadlines = s.deadlines ∧
    (s.restoreLostNotice g).serial = s.serial ∧ (s.restoreLostNotice g).groups = s.groups ∧
    (s.restoreLostNotice g).queue = s.queue ∧ (s.restoreLostNotice g).active = s.active ∧
    (s.restoreLostNotice g).suspended = s.suspended ∧ (s.restoreLostNotice g).pauseOrdered = s.pauseOrdered ∧
    (s.restoreLostNotice g).banks = s.banks ∧ (s.restoreLostNotice g).pfw = s.pfw ∧
    (s.restoreLostNotice g).pfwSeen = s.pfwSeen ∧ (s.restoreLostNotice g).fresh = s.fresh := by
  unfold State.restoreLostNotice; (repeat' split) <;> simp

/-- `restoreLostNotices` writes ports alone. -/
@[simp] theorem State.restoreLostNotices_frame (s : State) (gs : List GroupId) :
    (s.restoreLostNotices gs).pending = s.pending ∧ (s.restoreLostNotices gs).phase = s.phase ∧
    (s.restoreLostNotices gs).slots = s.slots ∧ (s.restoreLostNotices gs).index = s.index ∧
    (s.restoreLostNotices gs).homeMap = s.homeMap ∧ (s.restoreLostNotices gs).events = s.events ∧
    (s.restoreLostNotices gs).pointer = s.pointer ∧ (s.restoreLostNotices gs).item = s.item ∧
    (s.restoreLostNotices gs).time = s.time ∧ (s.restoreLostNotices gs).deadlines = s.deadlines ∧
    (s.restoreLostNotices gs).serial = s.serial ∧ (s.restoreLostNotices gs).groups = s.groups ∧
    (s.restoreLostNotices gs).queue = s.queue ∧ (s.restoreLostNotices gs).active = s.active ∧
    (s.restoreLostNotices gs).suspended = s.suspended ∧
    (s.restoreLostNotices gs).pauseOrdered = s.pauseOrdered ∧ (s.restoreLostNotices gs).banks = s.banks ∧
    (s.restoreLostNotices gs).pfw = s.pfw ∧ (s.restoreLostNotices gs).pfwSeen = s.pfwSeen ∧
    (s.restoreLostNotices gs).fresh = s.fresh := by
  induction gs generalizing s with
  | nil => simp [State.restoreLostNotices]
  | cons x rest ih => simp [State.restoreLostNotices, ih]

/-- `powerWarnSeen` writes ports alone. -/
@[simp] theorem State.powerWarnSeen_frame (s : State) :
    (s.powerWarnSeen).pending = s.pending ∧ (s.powerWarnSeen).phase = s.phase ∧
    (s.powerWarnSeen).slots = s.slots ∧ (s.powerWarnSeen).index = s.index ∧
    (s.powerWarnSeen).homeMap = s.homeMap ∧ (s.powerWarnSeen).events = s.events ∧
    (s.powerWarnSeen).pointer = s.pointer ∧ (s.powerWarnSeen).item = s.item ∧ (s.powerWarnSeen).time = s.time ∧
    (s.powerWarnSeen).deadlines = s.deadlines ∧ (s.powerWarnSeen).serial = s.serial ∧
    (s.powerWarnSeen).groups = s.groups ∧ (s.powerWarnSeen).queue = s.queue ∧
    (s.powerWarnSeen).active = s.active ∧ (s.powerWarnSeen).suspended = s.suspended ∧
    (s.powerWarnSeen).pauseOrdered = s.pauseOrdered ∧ (s.powerWarnSeen).banks = s.banks ∧
    (s.powerWarnSeen).pfw = s.pfw ∧ (s.powerWarnSeen).pfwSeen = s.pfwSeen ∧ (s.powerWarnSeen).fresh = s.fresh := by
  unfold State.powerWarnSeen; (repeat' split) <;> simp

/-- `raiseEviction` writes events, ports, pointer, item alone. -/
@[simp] theorem State.raiseEviction_frame (s : State) (p : PortId) :
    (s.raiseEviction p).pending = s.pending ∧ (s.raiseEviction p).phase = s.phase ∧
    (s.raiseEviction p).slots = s.slots ∧ (s.raiseEviction p).index = s.index ∧
    (s.raiseEviction p).homeMap = s.homeMap ∧ (s.raiseEviction p).time = s.time ∧
    (s.raiseEviction p).deadlines = s.deadlines ∧ (s.raiseEviction p).serial = s.serial ∧
    (s.raiseEviction p).groups = s.groups ∧ (s.raiseEviction p).queue = s.queue ∧
    (s.raiseEviction p).active = s.active ∧ (s.raiseEviction p).suspended = s.suspended ∧
    (s.raiseEviction p).pauseOrdered = s.pauseOrdered ∧ (s.raiseEviction p).banks = s.banks ∧
    (s.raiseEviction p).pfw = s.pfw ∧ (s.raiseEviction p).pfwSeen = s.pfwSeen ∧
    (s.raiseEviction p).fresh = s.fresh := by
  unfold State.raiseEviction; (repeat' split) <;> simp

/-- `abandonSuspended` writes groups, queue, suspended, banks, fresh alone. -/
@[simp] theorem State.abandonSuspended_frame (s : State) :
    (s.abandonSuspended).pending = s.pending ∧ (s.abandonSuspended).phase = s.phase ∧
    (s.abandonSuspended).slots = s.slots ∧ (s.abandonSuspended).index = s.index ∧
    (s.abandonSuspended).homeMap = s.homeMap ∧ (s.abandonSuspended).events = s.events ∧
    (s.abandonSuspended).pointer = s.pointer ∧ (s.abandonSuspended).item = s.item ∧
    (s.abandonSuspended).time = s.time ∧ (s.abandonSuspended).deadlines = s.deadlines ∧
    (s.abandonSuspended).serial = s.serial ∧ (s.abandonSuspended).ports = s.ports ∧
    (s.abandonSuspended).active = s.active ∧ (s.abandonSuspended).pauseOrdered = s.pauseOrdered ∧
    (s.abandonSuspended).pfw = s.pfw ∧ (s.abandonSuspended).pfwSeen = s.pfwSeen := by
  unfold State.abandonSuspended; (repeat' split) <;> simp

/-- `abandonActive` writes groups, queue, active, pauseOrdered, banks, fresh alone. -/
@[simp] theorem State.abandonActive_frame (s : State) :
    (s.abandonActive).pending = s.pending ∧ (s.abandonActive).phase = s.phase ∧
    (s.abandonActive).slots = s.slots ∧ (s.abandonActive).index = s.index ∧
    (s.abandonActive).homeMap = s.homeMap ∧ (s.abandonActive).events = s.events ∧
    (s.abandonActive).pointer = s.pointer ∧ (s.abandonActive).item = s.item ∧ (s.abandonActive).time = s.time ∧
    (s.abandonActive).deadlines = s.deadlines ∧ (s.abandonActive).serial = s.serial ∧
    (s.abandonActive).ports = s.ports ∧ (s.abandonActive).suspended = s.suspended ∧
    (s.abandonActive).pfw = s.pfw ∧ (s.abandonActive).pfwSeen = s.pfwSeen := by
  unfold State.abandonActive; (repeat' split) <;> simp

/-- `fallDue` writes deadlines, events, ports, pointer, item alone. -/
@[simp] theorem State.fallDue_frame (s : State) :
    (s.fallDue).pending = s.pending ∧ (s.fallDue).phase = s.phase ∧ (s.fallDue).slots = s.slots ∧
    (s.fallDue).index = s.index ∧ (s.fallDue).homeMap = s.homeMap ∧ (s.fallDue).time = s.time ∧
    (s.fallDue).serial = s.serial ∧ (s.fallDue).groups = s.groups ∧ (s.fallDue).queue = s.queue ∧
    (s.fallDue).active = s.active ∧ (s.fallDue).suspended = s.suspended ∧
    (s.fallDue).pauseOrdered = s.pauseOrdered ∧ (s.fallDue).banks = s.banks ∧ (s.fallDue).pfw = s.pfw ∧
    (s.fallDue).pfwSeen = s.pfwSeen ∧ (s.fallDue).fresh = s.fresh := by
  unfold State.fallDue; (repeat' split) <;> simp

/-- `fallAllDue` writes deadlines, events, ports, pointer, item alone. -/
@[simp] theorem State.fallAllDue_frame (s : State) :
    (s.fallAllDue).pending = s.pending ∧ (s.fallAllDue).phase = s.phase ∧ (s.fallAllDue).slots = s.slots ∧
    (s.fallAllDue).index = s.index ∧ (s.fallAllDue).homeMap = s.homeMap ∧ (s.fallAllDue).time = s.time ∧
    (s.fallAllDue).serial = s.serial ∧ (s.fallAllDue).groups = s.groups ∧ (s.fallAllDue).queue = s.queue ∧
    (s.fallAllDue).active = s.active ∧ (s.fallAllDue).suspended = s.suspended ∧
    (s.fallAllDue).pauseOrdered = s.pauseOrdered ∧ (s.fallAllDue).banks = s.banks ∧ (s.fallAllDue).pfw = s.pfw ∧
    (s.fallAllDue).pfwSeen = s.pfwSeen ∧ (s.fallAllDue).fresh = s.fresh := by
  simp [State.fallAllDue]

/-- `tickActive` writes groups alone. -/
@[simp] theorem State.tickActive_frame (s : State) :
    (s.tickActive).pending = s.pending ∧ (s.tickActive).phase = s.phase ∧ (s.tickActive).slots = s.slots ∧
    (s.tickActive).index = s.index ∧ (s.tickActive).homeMap = s.homeMap ∧ (s.tickActive).events = s.events ∧
    (s.tickActive).pointer = s.pointer ∧ (s.tickActive).item = s.item ∧ (s.tickActive).time = s.time ∧
    (s.tickActive).deadlines = s.deadlines ∧ (s.tickActive).serial = s.serial ∧ (s.tickActive).ports = s.ports ∧
    (s.tickActive).queue = s.queue ∧ (s.tickActive).active = s.active ∧ (s.tickActive).suspended = s.suspended ∧
    (s.tickActive).pauseOrdered = s.pauseOrdered ∧ (s.tickActive).banks = s.banks ∧ (s.tickActive).pfw = s.pfw ∧
    (s.tickActive).pfwSeen = s.pfwSeen ∧ (s.tickActive).fresh = s.fresh := by
  unfold State.tickActive; (repeat' split) <;> simp

/-- `inBegun` writes ports alone. -/
@[simp] theorem State.inBegun_frame (s : State) (p : PortId) (f : Port → Port) :
    (s.inBegun p f).pending = s.pending ∧ (s.inBegun p f).phase = s.phase ∧ (s.inBegun p f).slots = s.slots ∧
    (s.inBegun p f).index = s.index ∧ (s.inBegun p f).homeMap = s.homeMap ∧ (s.inBegun p f).events = s.events ∧
    (s.inBegun p f).pointer = s.pointer ∧ (s.inBegun p f).item = s.item ∧ (s.inBegun p f).time = s.time ∧
    (s.inBegun p f).deadlines = s.deadlines ∧ (s.inBegun p f).serial = s.serial ∧
    (s.inBegun p f).groups = s.groups ∧ (s.inBegun p f).queue = s.queue ∧ (s.inBegun p f).active = s.active ∧
    (s.inBegun p f).suspended = s.suspended ∧ (s.inBegun p f).pauseOrdered = s.pauseOrdered ∧
    (s.inBegun p f).banks = s.banks ∧ (s.inBegun p f).pfw = s.pfw ∧ (s.inBegun p f).pfwSeen = s.pfwSeen ∧
    (s.inBegun p f).fresh = s.fresh := by
  unfold State.inBegun; (repeat' split) <;> simp

/-- `changeGuard` writes slots, ports, groups, queue alone. -/
@[simp] theorem State.changeGuard_frame (s : State) (i : Slot) (r : Record) (g : Guard) :
    (s.changeGuard i r g).pending = s.pending ∧ (s.changeGuard i r g).phase = s.phase ∧
    (s.changeGuard i r g).index = s.index ∧ (s.changeGuard i r g).homeMap = s.homeMap ∧
    (s.changeGuard i r g).events = s.events ∧ (s.changeGuard i r g).pointer = s.pointer ∧
    (s.changeGuard i r g).item = s.item ∧ (s.changeGuard i r g).time = s.time ∧
    (s.changeGuard i r g).deadlines = s.deadlines ∧ (s.changeGuard i r g).serial = s.serial ∧
    (s.changeGuard i r g).active = s.active ∧ (s.changeGuard i r g).suspended = s.suspended ∧
    (s.changeGuard i r g).pauseOrdered = s.pauseOrdered ∧ (s.changeGuard i r g).banks = s.banks ∧
    (s.changeGuard i r g).pfw = s.pfw ∧ (s.changeGuard i r g).pfwSeen = s.pfwSeen ∧
    (s.changeGuard i r g).fresh = s.fresh := by
  unfold State.changeGuard; (repeat' split) <;> simp

/-- `leaveValue` writes slots, ports, groups, queue alone. -/
@[simp] theorem State.leaveValue_frame (s : State) (i : Slot) (r : Record) (v : Word) :
    (s.leaveValue i r v).pending = s.pending ∧ (s.leaveValue i r v).phase = s.phase ∧
    (s.leaveValue i r v).index = s.index ∧ (s.leaveValue i r v).homeMap = s.homeMap ∧
    (s.leaveValue i r v).events = s.events ∧ (s.leaveValue i r v).pointer = s.pointer ∧
    (s.leaveValue i r v).item = s.item ∧ (s.leaveValue i r v).time = s.time ∧
    (s.leaveValue i r v).deadlines = s.deadlines ∧ (s.leaveValue i r v).serial = s.serial ∧
    (s.leaveValue i r v).active = s.active ∧ (s.leaveValue i r v).suspended = s.suspended ∧
    (s.leaveValue i r v).pauseOrdered = s.pauseOrdered ∧ (s.leaveValue i r v).banks = s.banks ∧
    (s.leaveValue i r v).pfw = s.pfw ∧ (s.leaveValue i r v).pfwSeen = s.pfwSeen ∧
    (s.leaveValue i r v).fresh = s.fresh := by
  unfold State.leaveValue; (repeat' split) <;> simp

/-- `applyUpdate` writes slots, ports, groups, queue alone. -/
@[simp] theorem State.applyUpdate_frame (s : State) (i : Slot) (r : Record) (u : UpdateResult) :
    (s.applyUpdate i r u).pending = s.pending ∧ (s.applyUpdate i r u).phase = s.phase ∧
    (s.applyUpdate i r u).index = s.index ∧ (s.applyUpdate i r u).homeMap = s.homeMap ∧
    (s.applyUpdate i r u).events = s.events ∧ (s.applyUpdate i r u).pointer = s.pointer ∧
    (s.applyUpdate i r u).item = s.item ∧ (s.applyUpdate i r u).time = s.time ∧
    (s.applyUpdate i r u).deadlines = s.deadlines ∧ (s.applyUpdate i r u).serial = s.serial ∧
    (s.applyUpdate i r u).active = s.active ∧ (s.applyUpdate i r u).suspended = s.suspended ∧
    (s.applyUpdate i r u).pauseOrdered = s.pauseOrdered ∧ (s.applyUpdate i r u).banks = s.banks ∧
    (s.applyUpdate i r u).pfw = s.pfw ∧ (s.applyUpdate i r u).pfwSeen = s.pfwSeen ∧
    (s.applyUpdate i r u).fresh = s.fresh := by
  unfold State.applyUpdate; (repeat' split) <;> simp

/-- `answerHold` writes ports alone. -/
@[simp] theorem State.answerHold_frame (s : State) (p : PortId) (f : RequestFrame) (i : Slot) (st : Status) :
    (s.answerHold p f i st).pending = s.pending ∧ (s.answerHold p f i st).phase = s.phase ∧
    (s.answerHold p f i st).slots = s.slots ∧ (s.answerHold p f i st).index = s.index ∧
    (s.answerHold p f i st).homeMap = s.homeMap ∧ (s.answerHold p f i st).events = s.events ∧
    (s.answerHold p f i st).pointer = s.pointer ∧ (s.answerHold p f i st).item = s.item ∧
    (s.answerHold p f i st).time = s.time ∧ (s.answerHold p f i st).deadlines = s.deadlines ∧
    (s.answerHold p f i st).serial = s.serial ∧ (s.answerHold p f i st).groups = s.groups ∧
    (s.answerHold p f i st).queue = s.queue ∧ (s.answerHold p f i st).active = s.active ∧
    (s.answerHold p f i st).suspended = s.suspended ∧ (s.answerHold p f i st).pauseOrdered = s.pauseOrdered ∧
    (s.answerHold p f i st).banks = s.banks ∧ (s.answerHold p f i st).pfw = s.pfw ∧
    (s.answerHold p f i st).pfwSeen = s.pfwSeen ∧ (s.answerHold p f i st).fresh = s.fresh := by
  unfold State.answerHold; (repeat' split) <;> simp

/-- `answerHeld` writes ports alone. -/
@[simp] theorem State.answerHeld_frame (s : State) (p : PortId) (f : RequestFrame) (st : Status) (count : Nat) (lease : Option Ticks) (parked : Nat) :
    (s.answerHeld p f st count lease parked).pending = s.pending ∧
    (s.answerHeld p f st count lease parked).phase = s.phase ∧
    (s.answerHeld p f st count lease parked).slots = s.slots ∧
    (s.answerHeld p f st count lease parked).index = s.index ∧
    (s.answerHeld p f st count lease parked).homeMap = s.homeMap ∧
    (s.answerHeld p f st count lease parked).events = s.events ∧
    (s.answerHeld p f st count lease parked).pointer = s.pointer ∧
    (s.answerHeld p f st count lease parked).item = s.item ∧
    (s.answerHeld p f st count lease parked).time = s.time ∧
    (s.answerHeld p f st count lease parked).deadlines = s.deadlines ∧
    (s.answerHeld p f st count lease parked).serial = s.serial ∧
    (s.answerHeld p f st count lease parked).groups = s.groups ∧
    (s.answerHeld p f st count lease parked).queue = s.queue ∧
    (s.answerHeld p f st count lease parked).active = s.active ∧
    (s.answerHeld p f st count lease parked).suspended = s.suspended ∧
    (s.answerHeld p f st count lease parked).pauseOrdered = s.pauseOrdered ∧
    (s.answerHeld p f st count lease parked).banks = s.banks ∧
    (s.answerHeld p f st count lease parked).pfw = s.pfw ∧
    (s.answerHeld p f st count lease parked).pfwSeen = s.pfwSeen ∧
    (s.answerHeld p f st count lease parked).fresh = s.fresh := by
  simp [State.answerHeld]

/-- `setLease` writes slots, events, deadlines, serial alone. -/
@[simp] theorem State.setLease_frame (s : State) (i : Slot) (r : Record) (len : Ticks) :
    (s.setLease i r len).pending = s.pending ∧ (s.setLease i r len).phase = s.phase ∧
    (s.setLease i r len).index = s.index ∧ (s.setLease i r len).homeMap = s.homeMap ∧
    (s.setLease i r len).pointer = s.pointer ∧ (s.setLease i r len).item = s.item ∧
    (s.setLease i r len).time = s.time ∧ (s.setLease i r len).ports = s.ports ∧
    (s.setLease i r len).groups = s.groups ∧ (s.setLease i r len).queue = s.queue ∧
    (s.setLease i r len).active = s.active ∧ (s.setLease i r len).suspended = s.suspended ∧
    (s.setLease i r len).pauseOrdered = s.pauseOrdered ∧ (s.setLease i r len).banks = s.banks ∧
    (s.setLease i r len).pfw = s.pfw ∧ (s.setLease i r len).pfwSeen = s.pfwSeen ∧
    (s.setLease i r len).fresh = s.fresh := by
  unfold State.setLease; (repeat' split) <;> simp

/-- `raiseHold` writes slots, events, deadlines, serial alone. -/
@[simp] theorem State.raiseHold_frame (s : State) (i : Slot) (r : Record) (len : Ticks) :
    (s.raiseHold i r len).pending = s.pending ∧ (s.raiseHold i r len).phase = s.phase ∧
    (s.raiseHold i r len).index = s.index ∧ (s.raiseHold i r len).homeMap = s.homeMap ∧
    (s.raiseHold i r len).pointer = s.pointer ∧ (s.raiseHold i r len).item = s.item ∧
    (s.raiseHold i r len).time = s.time ∧ (s.raiseHold i r len).ports = s.ports ∧
    (s.raiseHold i r len).groups = s.groups ∧ (s.raiseHold i r len).queue = s.queue ∧
    (s.raiseHold i r len).active = s.active ∧ (s.raiseHold i r len).suspended = s.suspended ∧
    (s.raiseHold i r len).pauseOrdered = s.pauseOrdered ∧ (s.raiseHold i r len).banks = s.banks ∧
    (s.raiseHold i r len).pfw = s.pfw ∧ (s.raiseHold i r len).pfwSeen = s.pfwSeen ∧
    (s.raiseHold i r len).fresh = s.fresh := by
  unfold State.raiseHold; (repeat' split) <;> simp

/-- `addWait` writes events, deadlines, serial alone. -/
@[simp] theorem State.addWait_frame (s : State) (p : PortId) (key : Key) (mode : ClaimMode) :
    (s.addWait p key mode).pending = s.pending ∧ (s.addWait p key mode).phase = s.phase ∧
    (s.addWait p key mode).slots = s.slots ∧ (s.addWait p key mode).index = s.index ∧
    (s.addWait p key mode).homeMap = s.homeMap ∧ (s.addWait p key mode).pointer = s.pointer ∧
    (s.addWait p key mode).item = s.item ∧ (s.addWait p key mode).time = s.time ∧
    (s.addWait p key mode).ports = s.ports ∧ (s.addWait p key mode).groups = s.groups ∧
    (s.addWait p key mode).queue = s.queue ∧ (s.addWait p key mode).active = s.active ∧
    (s.addWait p key mode).suspended = s.suspended ∧ (s.addWait p key mode).pauseOrdered = s.pauseOrdered ∧
    (s.addWait p key mode).banks = s.banks ∧ (s.addWait p key mode).pfw = s.pfw ∧
    (s.addWait p key mode).pfwSeen = s.pfwSeen ∧ (s.addWait p key mode).fresh = s.fresh := by
  unfold State.addWait; (repeat' split) <;> simp

/-- `parkClaim` writes slots, ports, events, deadlines, serial alone. -/
@[simp] theorem State.parkClaim_frame (s : State) (p : PortId) (f : RequestFrame) (i : Slot) (r : Record) (mode : ClaimMode) :
    (s.parkClaim p f i r mode).pending = s.pending ∧ (s.parkClaim p f i r mode).phase = s.phase ∧
    (s.parkClaim p f i r mode).index = s.index ∧ (s.parkClaim p f i r mode).homeMap = s.homeMap ∧
    (s.parkClaim p f i r mode).pointer = s.pointer ∧ (s.parkClaim p f i r mode).item = s.item ∧
    (s.parkClaim p f i r mode).time = s.time ∧ (s.parkClaim p f i r mode).groups = s.groups ∧
    (s.parkClaim p f i r mode).queue = s.queue ∧ (s.parkClaim p f i r mode).active = s.active ∧
    (s.parkClaim p f i r mode).suspended = s.suspended ∧
    (s.parkClaim p f i r mode).pauseOrdered = s.pauseOrdered ∧ (s.parkClaim p f i r mode).banks = s.banks ∧
    (s.parkClaim p f i r mode).pfw = s.pfw ∧ (s.parkClaim p f i r mode).pfwSeen = s.pfwSeen ∧
    (s.parkClaim p f i r mode).fresh = s.fresh := by
  simp [State.parkClaim]

/-- `endHolds` writes slots, index, homeMap, groups, queue, ports, events, deadlines, serial alone. -/
@[simp] theorem State.endHolds_frame (s : State) (slots : List Slot) :
    (s.endHolds slots).pending = s.pending ∧ (s.endHolds slots).phase = s.phase ∧
    (s.endHolds slots).pointer = s.pointer ∧ (s.endHolds slots).item = s.item ∧
    (s.endHolds slots).time = s.time ∧ (s.endHolds slots).active = s.active ∧
    (s.endHolds slots).suspended = s.suspended ∧ (s.endHolds slots).pauseOrdered = s.pauseOrdered ∧
    (s.endHolds slots).banks = s.banks ∧ (s.endHolds slots).pfw = s.pfw ∧
    (s.endHolds slots).pfwSeen = s.pfwSeen ∧ (s.endHolds slots).fresh = s.fresh := by
  induction slots generalizing s with
  | nil => simp [State.endHolds]
  | cons x rest ih => simp [State.endHolds, ih]

/-- `evictClaim` writes slots, deadlines, ports alone. -/
@[simp] theorem State.evictClaim_frame (s : State) (fills : Bool) (c : Slot × ParkedClaim) :
    (s.evictClaim fills c).pending = s.pending ∧ (s.evictClaim fills c).phase = s.phase ∧
    (s.evictClaim fills c).index = s.index ∧ (s.evictClaim fills c).homeMap = s.homeMap ∧
    (s.evictClaim fills c).events = s.events ∧ (s.evictClaim fills c).pointer = s.pointer ∧
    (s.evictClaim fills c).item = s.item ∧ (s.evictClaim fills c).time = s.time ∧
    (s.evictClaim fills c).serial = s.serial ∧ (s.evictClaim fills c).groups = s.groups ∧
    (s.evictClaim fills c).queue = s.queue ∧ (s.evictClaim fills c).active = s.active ∧
    (s.evictClaim fills c).suspended = s.suspended ∧ (s.evictClaim fills c).pauseOrdered = s.pauseOrdered ∧
    (s.evictClaim fills c).banks = s.banks ∧ (s.evictClaim fills c).pfw = s.pfw ∧
    (s.evictClaim fills c).pfwSeen = s.pfwSeen ∧ (s.evictClaim fills c).fresh = s.fresh := by
  unfold State.evictClaim; (repeat' split) <;> simp

/-- `evictClaims` writes slots, deadlines, ports alone. -/
@[simp] theorem State.evictClaims_frame (s : State) (fills : Bool) (cs : List (Slot × ParkedClaim)) :
    (s.evictClaims fills cs).pending = s.pending ∧ (s.evictClaims fills cs).phase = s.phase ∧
    (s.evictClaims fills cs).index = s.index ∧ (s.evictClaims fills cs).homeMap = s.homeMap ∧
    (s.evictClaims fills cs).events = s.events ∧ (s.evictClaims fills cs).pointer = s.pointer ∧
    (s.evictClaims fills cs).item = s.item ∧ (s.evictClaims fills cs).time = s.time ∧
    (s.evictClaims fills cs).serial = s.serial ∧ (s.evictClaims fills cs).groups = s.groups ∧
    (s.evictClaims fills cs).queue = s.queue ∧ (s.evictClaims fills cs).active = s.active ∧
    (s.evictClaims fills cs).suspended = s.suspended ∧ (s.evictClaims fills cs).pauseOrdered = s.pauseOrdered ∧
    (s.evictClaims fills cs).banks = s.banks ∧ (s.evictClaims fills cs).pfw = s.pfw ∧
    (s.evictClaims fills cs).pfwSeen = s.pfwSeen ∧ (s.evictClaims fills cs).fresh = s.fresh := by
  induction cs generalizing s with
  | nil => simp [State.evictClaims]
  | cons x rest ih => simp [State.evictClaims, ih]

/-- `evictSync` writes ports alone. -/
@[simp] theorem State.evictSync_frame (s : State) (fills : Bool) (p : PortId) (t : Tag) :
    (s.evictSync fills p t).pending = s.pending ∧ (s.evictSync fills p t).phase = s.phase ∧
    (s.evictSync fills p t).slots = s.slots ∧ (s.evictSync fills p t).index = s.index ∧
    (s.evictSync fills p t).homeMap = s.homeMap ∧ (s.evictSync fills p t).events = s.events ∧
    (s.evictSync fills p t).pointer = s.pointer ∧ (s.evictSync fills p t).item = s.item ∧
    (s.evictSync fills p t).time = s.time ∧ (s.evictSync fills p t).deadlines = s.deadlines ∧
    (s.evictSync fills p t).serial = s.serial ∧ (s.evictSync fills p t).groups = s.groups ∧
    (s.evictSync fills p t).queue = s.queue ∧ (s.evictSync fills p t).active = s.active ∧
    (s.evictSync fills p t).suspended = s.suspended ∧ (s.evictSync fills p t).pauseOrdered = s.pauseOrdered ∧
    (s.evictSync fills p t).banks = s.banks ∧ (s.evictSync fills p t).pfw = s.pfw ∧
    (s.evictSync fills p t).pfwSeen = s.pfwSeen ∧ (s.evictSync fills p t).fresh = s.fresh := by
  unfold State.evictSync; (repeat' split) <;> simp

/-- `evictSyncs` writes ports alone. -/
@[simp] theorem State.evictSyncs_frame (s : State) (fills : Bool) (p : PortId) (tags : List Tag) :
    (s.evictSyncs fills p tags).pending = s.pending ∧ (s.evictSyncs fills p tags).phase = s.phase ∧
    (s.evictSyncs fills p tags).slots = s.slots ∧ (s.evictSyncs fills p tags).index = s.index ∧
    (s.evictSyncs fills p tags).homeMap = s.homeMap ∧ (s.evictSyncs fills p tags).events = s.events ∧
    (s.evictSyncs fills p tags).pointer = s.pointer ∧ (s.evictSyncs fills p tags).item = s.item ∧
    (s.evictSyncs fills p tags).time = s.time ∧ (s.evictSyncs fills p tags).deadlines = s.deadlines ∧
    (s.evictSyncs fills p tags).serial = s.serial ∧ (s.evictSyncs fills p tags).groups = s.groups ∧
    (s.evictSyncs fills p tags).queue = s.queue ∧ (s.evictSyncs fills p tags).active = s.active ∧
    (s.evictSyncs fills p tags).suspended = s.suspended ∧
    (s.evictSyncs fills p tags).pauseOrdered = s.pauseOrdered ∧ (s.evictSyncs fills p tags).banks = s.banks ∧
    (s.evictSyncs fills p tags).pfw = s.pfw ∧ (s.evictSyncs fills p tags).pfwSeen = s.pfwSeen ∧
    (s.evictSyncs fills p tags).fresh = s.fresh := by
  induction tags generalizing s with
  | nil => simp [State.evictSyncs]
  | cons x rest ih => simp [State.evictSyncs, ih]

/-- `evictWork` writes slots, index, homeMap, groups, queue, ports, events, deadlines, serial alone. -/
@[simp] theorem State.evictWork_frame (s : State) (p : PortId) (fills : Bool) :
    (s.evictWork p fills).pending = s.pending ∧ (s.evictWork p fills).phase = s.phase ∧
    (s.evictWork p fills).pointer = s.pointer ∧ (s.evictWork p fills).item = s.item ∧
    (s.evictWork p fills).time = s.time ∧ (s.evictWork p fills).active = s.active ∧
    (s.evictWork p fills).suspended = s.suspended ∧ (s.evictWork p fills).pauseOrdered = s.pauseOrdered ∧
    (s.evictWork p fills).banks = s.banks ∧ (s.evictWork p fills).pfw = s.pfw ∧
    (s.evictWork p fills).pfwSeen = s.pfwSeen ∧ (s.evictWork p fills).fresh = s.fresh := by
  simp [State.evictWork]

/-- `evict` writes slots, index, homeMap, groups, queue, ports, events, deadlines, serial alone. -/
@[simp] theorem State.evict_frame (s : State) (p : PortId) (fills : Bool) :
    (s.evict p fills).pending = s.pending ∧ (s.evict p fills).phase = s.phase ∧
    (s.evict p fills).pointer = s.pointer ∧ (s.evict p fills).item = s.item ∧ (s.evict p fills).time = s.time ∧
    (s.evict p fills).active = s.active ∧ (s.evict p fills).suspended = s.suspended ∧
    (s.evict p fills).pauseOrdered = s.pauseOrdered ∧ (s.evict p fills).banks = s.banks ∧
    (s.evict p fills).pfw = s.pfw ∧ (s.evict p fills).pfwSeen = s.pfwSeen ∧ (s.evict p fills).fresh = s.fresh := by
  simp [State.evict]

/-- `expireLease` writes slots, index, homeMap, groups, queue, ports, events, deadlines, serial alone. -/
@[simp] theorem State.expireLease_frame (s : State) (key : Key) (p : PortId) (n : Serial) :
    (s.expireLease key p n).pending = s.pending ∧ (s.expireLease key p n).phase = s.phase ∧
    (s.expireLease key p n).pointer = s.pointer ∧ (s.expireLease key p n).item = s.item ∧
    (s.expireLease key p n).time = s.time ∧ (s.expireLease key p n).active = s.active ∧
    (s.expireLease key p n).suspended = s.suspended ∧ (s.expireLease key p n).pauseOrdered = s.pauseOrdered ∧
    (s.expireLease key p n).banks = s.banks ∧ (s.expireLease key p n).pfw = s.pfw ∧
    (s.expireLease key p n).pfwSeen = s.pfwSeen ∧ (s.expireLease key p n).fresh = s.fresh := by
  unfold State.expireLease; (repeat' split) <;> simp

/-- `expireWait` writes slots, deadlines, ports alone. -/
@[simp] theorem State.expireWait_frame (s : State) (key : Key) (p : PortId) (n : Serial) :
    (s.expireWait key p n).pending = s.pending ∧ (s.expireWait key p n).phase = s.phase ∧
    (s.expireWait key p n).index = s.index ∧ (s.expireWait key p n).homeMap = s.homeMap ∧
    (s.expireWait key p n).events = s.events ∧ (s.expireWait key p n).pointer = s.pointer ∧
    (s.expireWait key p n).item = s.item ∧ (s.expireWait key p n).time = s.time ∧
    (s.expireWait key p n).serial = s.serial ∧ (s.expireWait key p n).groups = s.groups ∧
    (s.expireWait key p n).queue = s.queue ∧ (s.expireWait key p n).active = s.active ∧
    (s.expireWait key p n).suspended = s.suspended ∧ (s.expireWait key p n).pauseOrdered = s.pauseOrdered ∧
    (s.expireWait key p n).banks = s.banks ∧ (s.expireWait key p n).pfw = s.pfw ∧
    (s.expireWait key p n).pfwSeen = s.pfwSeen ∧ (s.expireWait key p n).fresh = s.fresh := by
  unfold State.expireWait; (repeat' split) <;> simp

/-- `acceptCapture` writes groups alone. -/
@[simp] theorem State.acceptCapture_frame (s : State) (g : GroupId) (capture : Vector CapturedHome 16) :
    (s.acceptCapture g capture).pending = s.pending ∧ (s.acceptCapture g capture).phase = s.phase ∧
    (s.acceptCapture g capture).slots = s.slots ∧ (s.acceptCapture g capture).index = s.index ∧
    (s.acceptCapture g capture).homeMap = s.homeMap ∧ (s.acceptCapture g capture).events = s.events ∧
    (s.acceptCapture g capture).pointer = s.pointer ∧ (s.acceptCapture g capture).item = s.item ∧
    (s.acceptCapture g capture).time = s.time ∧ (s.acceptCapture g capture).deadlines = s.deadlines ∧
    (s.acceptCapture g capture).serial = s.serial ∧ (s.acceptCapture g capture).ports = s.ports ∧
    (s.acceptCapture g capture).queue = s.queue ∧ (s.acceptCapture g capture).active = s.active ∧
    (s.acceptCapture g capture).suspended = s.suspended ∧
    (s.acceptCapture g capture).pauseOrdered = s.pauseOrdered ∧ (s.acceptCapture g capture).banks = s.banks ∧
    (s.acceptCapture g capture).pfw = s.pfw ∧ (s.acceptCapture g capture).pfwSeen = s.pfwSeen ∧
    (s.acceptCapture g capture).fresh = s.fresh := by
  unfold State.acceptCapture; (repeat' split) <;> simp

/-- `settleWorn` writes groups, ports, fresh alone. -/
@[simp] theorem State.settleWorn_frame (s : State) (g : GroupId) :
    (s.settleWorn g).pending = s.pending ∧ (s.settleWorn g).phase = s.phase ∧ (s.settleWorn g).slots = s.slots ∧
    (s.settleWorn g).index = s.index ∧ (s.settleWorn g).homeMap = s.homeMap ∧
    (s.settleWorn g).events = s.events ∧ (s.settleWorn g).pointer = s.pointer ∧ (s.settleWorn g).item = s.item ∧
    (s.settleWorn g).time = s.time ∧ (s.settleWorn g).deadlines = s.deadlines ∧
    (s.settleWorn g).serial = s.serial ∧ (s.settleWorn g).queue = s.queue ∧ (s.settleWorn g).active = s.active ∧
    (s.settleWorn g).suspended = s.suspended ∧ (s.settleWorn g).pauseOrdered = s.pauseOrdered ∧
    (s.settleWorn g).banks = s.banks ∧ (s.settleWorn g).pfw = s.pfw ∧ (s.settleWorn g).pfwSeen = s.pfwSeen := by
  unfold State.settleWorn; (repeat' split) <;> simp

/-- `commitGroup` writes homeMap, groups, ports, fresh alone. -/
@[simp] theorem State.commitGroup_frame (s : State) (g : GroupId) (noted : List (Fin 16)) :
    (s.commitGroup g noted).pending = s.pending ∧ (s.commitGroup g noted).phase = s.phase ∧
    (s.commitGroup g noted).slots = s.slots ∧ (s.commitGroup g noted).index = s.index ∧
    (s.commitGroup g noted).events = s.events ∧ (s.commitGroup g noted).pointer = s.pointer ∧
    (s.commitGroup g noted).item = s.item ∧ (s.commitGroup g noted).time = s.time ∧
    (s.commitGroup g noted).deadlines = s.deadlines ∧ (s.commitGroup g noted).serial = s.serial ∧
    (s.commitGroup g noted).queue = s.queue ∧ (s.commitGroup g noted).active = s.active ∧
    (s.commitGroup g noted).suspended = s.suspended ∧ (s.commitGroup g noted).pauseOrdered = s.pauseOrdered ∧
    (s.commitGroup g noted).banks = s.banks ∧ (s.commitGroup g noted).pfw = s.pfw ∧
    (s.commitGroup g noted).pfwSeen = s.pfwSeen := by
  simp [State.commitGroup]

/-- `failsLeaving` writes groups, queue, active, suspended, events, ports, pointer, item, pauseOrdered, banks, fresh alone. -/
@[simp] theorem State.failsLeaving_frame (s : State) (a : ActiveRewrite) (m : Memory) :
    (s.failsLeaving a m).pending = s.pending ∧ (s.failsLeaving a m).phase = s.phase ∧
    (s.failsLeaving a m).slots = s.slots ∧ (s.failsLeaving a m).index = s.index ∧
    (s.failsLeaving a m).homeMap = s.homeMap ∧ (s.failsLeaving a m).time = s.time ∧
    (s.failsLeaving a m).deadlines = s.deadlines ∧ (s.failsLeaving a m).serial = s.serial ∧
    (s.failsLeaving a m).pfw = s.pfw ∧ (s.failsLeaving a m).pfwSeen = s.pfwSeen := by
  simp [State.failsLeaving]

/-- `eraseFails` writes groups, queue, active, suspended, events, ports, pointer, item, pauseOrdered, banks, fresh alone. -/
@[simp] theorem State.eraseFails_frame (s : State) (a : ActiveRewrite) (left : GroupId → Nat → Memory) :
    (s.eraseFails a left).pending = s.pending ∧ (s.eraseFails a left).phase = s.phase ∧
    (s.eraseFails a left).slots = s.slots ∧ (s.eraseFails a left).index = s.index ∧
    (s.eraseFails a left).homeMap = s.homeMap ∧ (s.eraseFails a left).time = s.time ∧
    (s.eraseFails a left).deadlines = s.deadlines ∧ (s.eraseFails a left).serial = s.serial ∧
    (s.eraseFails a left).pfw = s.pfw ∧ (s.eraseFails a left).pfwSeen = s.pfwSeen := by
  simp [State.eraseFails]

/-- `programFails` writes groups, queue, active, suspended, events, ports, pointer, item, pauseOrdered, banks, fresh alone. -/
@[simp] theorem State.programFails_frame (s : State) (a : ActiveRewrite) :
    (s.programFails a).pending = s.pending ∧ (s.programFails a).phase = s.phase ∧
    (s.programFails a).slots = s.slots ∧ (s.programFails a).index = s.index ∧
    (s.programFails a).homeMap = s.homeMap ∧ (s.programFails a).time = s.time ∧
    (s.programFails a).deadlines = s.deadlines ∧ (s.programFails a).serial = s.serial ∧
    (s.programFails a).pfw = s.pfw ∧ (s.programFails a).pfwSeen = s.pfwSeen := by
  simp [State.programFails]

/-- `markFails` writes groups, queue, active, suspended, events, ports, pointer, item, pauseOrdered, banks, fresh alone. -/
@[simp] theorem State.markFails_frame (s : State) (a : ActiveRewrite) :
    (s.markFails a).pending = s.pending ∧ (s.markFails a).phase = s.phase ∧ (s.markFails a).slots = s.slots ∧
    (s.markFails a).index = s.index ∧ (s.markFails a).homeMap = s.homeMap ∧ (s.markFails a).time = s.time ∧
    (s.markFails a).deadlines = s.deadlines ∧ (s.markFails a).serial = s.serial ∧ (s.markFails a).pfw = s.pfw ∧
    (s.markFails a).pfwSeen = s.pfwSeen := by
  simp [State.markFails]

end Sys2Proof.Machine
end

