-- ==== Sys2Proof/Laws/Memory.lean ====
section
/-! SUPPORT. The laws of a bank's bytes: every operation keeps the canonical form, a byte written reads back, and every
other byte reads as before. -/

namespace Sys2Proof.Machine

@[simp] theorem Memory.read_nil (o : Nat) : Memory.read [] o = erasedByte := rfl

@[simp] theorem Memory.wf_erased : Memory.wf Memory.erased = true := rfl

theorem Memory.risesFrom_cons (low : Nat) (c : Host.Cell) (m : Memory) :
    Memory.risesFrom low (c :: m) = true ↔
      low ≤ c.1 ∧ c.2 ≠ erasedByte ∧ Memory.risesFrom (c.1 + 1) m = true := by
  simp [Memory.risesFrom, and_assoc]

/-- A canonical form that rises from an offset rises from every lower one. -/
theorem Memory.risesFrom_mono {low low' : Nat} {m : Memory} (h : Memory.risesFrom low m = true) (hl : low' ≤ low) :
    Memory.risesFrom low' m = true := by
  cases m with
  | nil => rfl
  | cons c rest =>
    rw [Memory.risesFrom_cons] at h ⊢
    exact ⟨hl.trans h.1, h.2⟩

/-- Offsets below the first listed one read erased. -/
theorem Memory.read_below {low o : Nat} {m : Memory} (h : Memory.risesFrom low m = true) (ho : o < low) :
    Memory.read m o = erasedByte := by
  induction m generalizing low with
  | nil => rfl
  | cons c rest ih =>
    rw [Memory.risesFrom_cons] at h
    have hne : c.1 ≠ o := by omega
    simp only [Memory.read, if_neg hne]
    exact ih h.2.2 (by omega)

/-- A write keeps the canonical form. -/
theorem Memory.risesFrom_write {low o : Nat} {m : Memory} (x : Byte) (h : Memory.risesFrom low m = true)
    (ho : low ≤ o) : Memory.risesFrom low (m.write o x) = true := by
  induction m generalizing low with
  | nil =>
    simp only [Memory.write]
    split
    · rfl
    · simp [Memory.risesFrom, *]
  | cons c rest ih =>
    have hc := (Memory.risesFrom_cons low c rest).1 h
    simp only [Memory.write]
    split
    · exact (Memory.risesFrom_cons _ _ _).2 ⟨hc.1, hc.2.1, ih hc.2.2 (by omega)⟩
    · split
      · split
        · exact Memory.risesFrom_mono hc.2.2 (by omega)
        · rename_i e hx
          exact (Memory.risesFrom_cons _ _ _).2 ⟨ho, hx, by simpa [← e] using hc.2.2⟩
      · split
        · exact h
        · rename_i hx
          refine (Memory.risesFrom_cons _ _ _).2 ⟨ho, hx, (Memory.risesFrom_cons _ _ _).2 ⟨?_, hc.2⟩⟩
          show o + 1 ≤ c.1
          omega

theorem Memory.wf_write {m : Memory} (h : m.wf = true) (o : Nat) (x : Byte) : (m.write o x).wf = true :=
  Memory.risesFrom_write x h (Nat.zero_le o)

theorem Memory.wf_writeBytes {m : Memory} (h : m.wf = true) (o : Nat) (xs : List Byte) :
    (m.writeBytes o xs).wf = true := by
  induction xs generalizing m o with
  | nil => exact h
  | cons x rest ih => exact ih (Memory.wf_write h o x) (o + 1)

/-- Read after write, the same offset. -/
theorem Memory.read_write_same {m : Memory} {low : Nat} (h : Memory.risesFrom low m = true) (o : Nat) (x : Byte) :
    (m.write o x).read o = x := by
  induction m generalizing low with
  | nil =>
    by_cases hx : x = erasedByte <;> simp [Memory.write, hx, Memory.read]
  | cons c rest ih =>
    have hc := (Memory.risesFrom_cons low c rest).1 h
    simp only [Memory.write]
    split
    · rename_i hlt
      have hne : c.1 ≠ o := by omega
      simp only [Memory.read, if_neg hne]
      exact ih hc.2.2
    · split
      · split
        · rename_i e hx
          rw [hx]
          exact Memory.read_below hc.2.2 (by omega)
        · simp [Memory.read]
      · split
        · rename_i hx
          rw [hx]
          exact Memory.read_below (low := c.1) ((Memory.risesFrom_cons _ _ _).2 ⟨Nat.le_refl _, hc.2⟩) (by omega)
        · simp [Memory.read]

/-- Read after write, another offset. -/
theorem Memory.read_write_other (m : Memory) {o a : Nat} (x : Byte) (h : a ≠ o) : (m.write o x).read a = m.read a := by
  induction m with
  | nil =>
    by_cases hx : x = erasedByte <;> simp [Memory.write, hx, Memory.read, Ne.symm h]
  | cons c rest ih =>
    simp only [Memory.write]
    split
    · simp only [Memory.read, ih]
    · split
      · rename_i e
        have hne : c.1 ≠ a := by omega
        split <;> simp [Memory.read, Ne.symm h, hne]
      · split
        · rfl
        · simp [Memory.read, Ne.symm h]

/-- Bytes below the first offset written read as before. -/
theorem Memory.read_writeBytes_below (m : Memory) (xs : List Byte) {o a : Nat} (h : a < o) :
    (m.writeBytes o xs).read a = m.read a := by
  induction xs generalizing m o with
  | nil => rfl
  | cons x rest ih =>
    show (Memory.writeBytes (m.write o x) (o + 1) rest).read a = _
    rw [ih (m.write o x) (by omega), Memory.read_write_other _ _ (by omega)]

/-- Bytes beyond the last offset written read as before. -/
theorem Memory.read_writeBytes_above (m : Memory) (xs : List Byte) {o a : Nat} (h : o + xs.length ≤ a) :
    (m.writeBytes o xs).read a = m.read a := by
  induction xs generalizing m o with
  | nil => rfl
  | cons x rest ih =>
    simp only [List.length_cons] at h
    show (Memory.writeBytes (m.write o x) (o + 1) rest).read a = _
    rw [ih (m.write o x) (by omega), Memory.read_write_other _ _ (by omega)]

/-- The bytes written read back. -/
theorem Memory.read_writeBytes {m : Memory} (h : m.wf = true) (xs : List Byte) (o k : Nat) (hk : k < xs.length) :
    (m.writeBytes o xs).read (o + k) = xs[k] := by
  induction xs generalizing m o k with
  | nil => simp at hk
  | cons x rest ih =>
    show (Memory.writeBytes (m.write o x) (o + 1) rest).read (o + k) = _
    cases k with
    | zero =>
      rw [Memory.read_writeBytes_below _ _ (by omega)]
      exact Memory.read_write_same h o x
    | succ k =>
      have := ih (Memory.wf_write h o x) (o + 1) k (by simpa using hk)
      rw [show o + (k + 1) = o + 1 + k by omega, this]
      rfl

/-- The bytes written, read back as a run. -/
theorem Memory.readBytes_writeBytes {m : Memory} (h : m.wf = true) (xs : List Byte) (o : Nat) :
    (m.writeBytes o xs).readBytes o xs.length = xs := by
  apply List.ext_getElem
  · simp [Memory.readBytes]
  · intro k h₁ h₂
    simp [Memory.readBytes, Memory.read_writeBytes h xs o k h₂]

@[simp] theorem Memory.length_readBytes (m : Memory) (o n : Nat) : (m.readBytes o n).length = n := by
  simp [Memory.readBytes]

/-- Two banks that read alike over a run have the same run of bytes. -/
theorem Memory.readBytes_congr {m m' : Memory} {o n : Nat} (h : ∀ k < n, m.read (o + k) = m'.read (o + k)) :
    m.readBytes o n = m'.readBytes o n := by
  simp only [Memory.readBytes]
  exact List.map_congr_left fun k hk => h k (List.mem_range.1 hk)

/-- A run of bytes cut short. -/
theorem Memory.take_readBytes (m : Memory) (o : Nat) {k n : Nat} (h : k ≤ n) :
    (m.readBytes o n).take k = m.readBytes o k := by
  simp [Memory.readBytes, ← List.map_take, List.take_range, Nat.min_eq_left h]

/-- A run of bytes without its beginning. -/
theorem Memory.drop_readBytes (m : Memory) (o k n : Nat) :
    (m.readBytes o (k + n)).drop k = m.readBytes (o + k) n := by
  apply List.ext_getElem
  · simp
  · intro j h₁ h₂
    simp [Memory.readBytes, Nat.add_assoc]

end Sys2Proof.Machine
end

