-- ==== Sys2Proof/Laws/Requests.lean ====
section
/-! SUPPORT. What the shared operations of an item come to: taking a client, serving a request, answering it, handing
notices, marking a group dirty, and adding a deadline. -/

namespace Sys2Proof.Machine

/-- R145. -/
theorem Port.eligible_iff {q : Port} {f : RequestFrame} :
    q.eligible = some f ↔ q.requests.head? = some f ∧ q.reserved.length + q.filled.length < 4 := by
  unfold Port.eligible Port.freeEntries Config.replyEntries
  split
  · constructor
    · nofun
    · rintro ⟨-, h⟩
      omega
  · constructor
    · exact fun h => ⟨h, by omega⟩
    · exact And.left

/-- The request that the Table Engine takes is its port's eligible head request (R143). -/
theorem State.client_eligible {s : State} {p : PortId} {f : RequestFrame} (h : s.client = some (.request p f)) :
    s.ports[p].eligible = some f := by
  unfold State.client at h
  split at h
  · split at h
    · exact absurd (Option.some.inj h) nofun
    · obtain ⟨q, -, hq⟩ := List.exists_of_findSome?_eq_some h
      obtain ⟨f', hf, he⟩ := Option.map_eq_some_iff.1 hq
      obtain ⟨rfl, rfl⟩ := Client.request.inj he
      exact hf
  · exact absurd h nofun

/-- R141: an item in progress goes on. -/
theorem State.engaged_busy {s : State} (h : s.item ≠ none) : s.engaged = s := by
  unfold State.engaged
  split
  · rfl
  · exact absurd ‹_› h

/-- R143, step 3: with no client there the Table Engine waits. -/
theorem State.engaged_idle {s : State} (h : s.client = none) : s.engaged = s := by
  unfold State.engaged
  split
  · rfl
  · rw [h]

/-- R143, step 1: a free engine takes the event at the head. -/
theorem State.engaged_event {s : State} {e : Event} (hi : s.item = none) (h : s.client = some (.event e)) :
    s.engaged = s.takeEvent e := by
  simp [State.engaged, hi, h]

/-- R143, step 2: a free engine takes the request chosen. -/
theorem State.engaged_request {s : State} {p : PortId} {f : RequestFrame} (hi : s.item = none)
    (h : s.client = some (.request p f)) : s.engaged = s.takeRequest p f := by
  simp [State.engaged, hi, h]

/-- A request row sees the request in progress. -/
theorem State.request_iff {s : State} {p : PortId} {f : RequestFrame} :
    s.request p = some f ↔ Serves s (.request p f) := by
  unfold State.request Serves
  split <;> rename_i h <;> simp [h]

/-- An event row sees the event in progress. -/
theorem State.event_iff {s : State} {e : Event} : s.event = some e ↔ Serves s (.event e) := by
  unfold State.event Serves
  split <;> rename_i h <;> simp [h]

/-- A row whose port has no request in progress sees none. -/
theorem State.request_none {s : State} {p : PortId} (h : ∀ f, ¬ Serves s (.request p f)) : s.request p = none :=
  Option.eq_none_iff_forall_ne_some.2 fun f hf => h f (State.request_iff.1 hf)

/-- A row sees no event where none is in progress. -/
theorem State.event_none {s : State} (h : ∀ e, ¬ Serves s (.event e)) : s.event = none :=
  Option.eq_none_iff_forall_ne_some.2 fun e he => h e (State.event_iff.1 he)

/-- The item of a request that is in progress, and its end. -/
theorem serve_taken {s : State} {p : PortId} {f : RequestFrame} {code : Byte} (h : Taken s p f code)
    (body : RequestFrame → State → State) : serve code p s body = (body f s).finish := by
  obtain ⟨hc, rfl, hl⟩ := h
  simp [serve, State.request_iff.2 hc, RequestFrame.sound, hl]

/-- A record found for a request's key. -/
theorem withRecord_finds {s t : State} {p : PortId} {f : RequestFrame} {i : Slot} {r : Record} (h : Finds s f.key i r)
    (hi : t.index = s.index) (hs : t.slots = s.slots) (body : Slot → Record → State) :
    withRecord p f t body = body i r := by
  have h2 : t.lookup f.key = some (i, r) := by rw [← h.2]; simp [State.lookup, hi, hs]
  have hk : isRecordKey f.key = true := by
    have h1 := h.1
    simp only [isRecordKey, Bool.and_eq_true, decide_eq_true_eq]; exact h1
  simp [withRecord, hk, h2]

/-- A LIVE record found for a request's key. -/
theorem withLiveRecord_finds {s t : State} {p : PortId} {f : RequestFrame} {i : Slot} {r : Record}
    (h : Finds s f.key i r) (hl : r.state = .live) (hi : t.index = s.index) (hs : t.slots = s.slots)
    (body : Slot → Record → State) : withLiveRecord p f t body = body i r := by
  simp [withLiveRecord, withRecord_finds h hi hs, hl]

/-- R147, R149: the reply of the request's own entry. -/
theorem State.answer_eq (s : State) (p : PortId) (f : RequestFrame) (a : Answer) :
    s.answer p f a = { s with ports := s.ports.set p (s.ports[p].answered f a) } := rfl

/-- R147: a request that is at once answered, and whose item then ends. -/
theorem State.answer_finish (s : State) (p : PortId) (f : RequestFrame) (a : Answer) :
    (s.answer p f a).finish = s.answered p f a := rfl

/-- R83: every port at once. -/
theorem State.notifyWatchers_eq (s : State) (w : Vector (Option Interest) 4) (wants : Interest → Bool) (n : Notice) :
    s.notifyWatchers w wants n = { s with ports := handed s.ports w wants n } := by
  simp only [State.notifyWatchers, State.mapPorts, handed]
  congr 1

/-- R84: every port at once. -/
theorem State.deviceNotice_eq (s : State) (kinds : DeviceKinds) (g : Option GroupId) :
    s.deviceNotice kinds g = { s with ports := handedAll s.ports kinds g } := by
  simp only [State.deviceNotice, State.mapPorts, handedAll]
  congr 1

/-- R119 for a record's home. -/
theorem State.dirtyMarkOf_eq (s : State) (r : Record) : s.dirtyMarkOf r = s.dirtied r.home := by
  unfold State.dirtyMarkOf State.dirtied
  cases hh : r.home with
  | none => rfl
  | some h =>
    simp only [State.dirtyMark, Group.dirtied, State.setGroup]
    cases hs : s.groups[h.group].state <;> simp_all

/-- A serial is never 0 (R64). -/
theorem succSerial_ne_zero (n : Serial) : succSerial n ≠ 0 := by
  unfold succSerial
  split
  · decide
  · rename_i h
    intro h0
    apply h
    have : n = -1#32 := by
      have := congrArg (· - 1#32) h0
      simpa using this
    rw [this]; decide

/-- A serial is never 0 (R64). -/
theorem nextFreeSerial_ne_zero (used : List Serial) (n : Serial) (k : Nat) : nextFreeSerial used n k ≠ 0 := by
  induction k generalizing n with
  | zero => exact succSerial_ne_zero n
  | succ k ih =>
    unfold nextFreeSerial
    split
    · exact ih _
    · exact succSerial_ne_zero n

/-- R64, R66, R67: an entry whose due tick device time has reached raises its event at once, behind those that are due
in the list. -/
theorem State.addDeadline_late {s : State} {len : Ticks} (h : s.late len = true) (kind : DeadlineKind) (key : Key)
    (port : PortId) :
    s.addDeadline kind key port len =
      { s with
        deadlines := s.laterDeadlines
        events := s.events ++ s.dueDeadlines.map Deadline.event ++ [.expiry kind key port s.nextSerial]
        serial := s.nextSerial } := by
  simp [State.addDeadline, h, Deadline.event]

/-- R67: the entries that are due and those that are not make up the list. -/
theorem State.due_append_later (s : State) : s.dueDeadlines ++ s.laterDeadlines = s.deadlines :=
  List.takeWhile_append_dropWhile

/-- R67: the entries that fall due have reached their due tick. -/
theorem State.reached_of_mem_due {s : State} {d : Deadline} (h : d ∈ s.dueDeadlines) : reached s.time d.due = true :=
  List.mem_takeWhile_imp (p := fun d : Deadline => reached s.time d.due) h

/-- R64 to R66: any other joins the list. -/
theorem State.addDeadline_ahead {s : State} {len : Ticks} (h : s.late len = false) (kind : DeadlineKind) (key : Key)
    (port : PortId) :
    s.addDeadline kind key port len =
      { s with
        deadlines := insertDeadline s.time ⟨kind, key, port, s.reading + len.setWidth 32, s.nextSerial⟩ s.deadlines
        serial := s.nextSerial } := by
  simp [State.addDeadline, h]

end Sys2Proof.Machine
end

