-- ==== Sys2Proof/Laws/Table.lean ====
section
/-! SUPPORT. The Key Index and the slots: what a lookup finds, and the operations on records that keep the index sound
(R1, R6, R20). -/

namespace Sys2Proof.Machine

/-- One place of a vector after a write. -/
theorem vector_set_at {α : Type} {n : Nat} (v : Vector α n) (i j : Fin n) (x : α) :
    (v.set i x)[j] = if i = j then x else v[j] := by
  simp [Fin.getElem_fin, Vector.getElem_set, Fin.ext_iff]

/-- The records after one slot is written. -/
theorem State.setSlot_at (s : State) (i j : Slot) (r : Option Record) :
    (s.setSlot i r).slots[j] = if i = j then r else s.slots[j] := by
  simp [Vector.getElem_set, Fin.ext_iff]

/-- In an index in key order an entry is known by its key (R6). -/
theorem key_unique {l : List IndexEntry} (h : l.Pairwise (fun a b => a.key < b.key)) {a b : IndexEntry}
    (ha : a ∈ l) (hb : b ∈ l) (e : a.key = b.key) : a = b := by
  induction l with
  | nil => simp at ha
  | cons x rest ih =>
    rw [List.pairwise_cons] at h
    rcases List.mem_cons.1 ha with rfl | ha' <;> rcases List.mem_cons.1 hb with rfl | hb'
    · rfl
    · have := h.1 _ hb'; rw [e] at this; simp at this
    · have := h.1 _ ha'; rw [e] at this; simp at this
    · exact ih h.2 ha' hb'

/-- What the Key Index finds stands in its slot and is listed under the key. -/
theorem State.lookup_some {s : State} {k : Key} {i : Slot} {r : Record} (h : s.lookup k = some (i, r)) :
    s.slots[i] = some r ∧ ∃ e ∈ s.index, e.key = k ∧ e.slot = i := by
  unfold State.lookup at h
  split at h
  · simp at h
  · rename_i e he
    have h1 := List.find?_some he
    have h2 := List.mem_of_find?_eq_some he
    simp only [Option.map_eq_some_iff, Prod.mk.injEq] at h
    obtain ⟨r', h3, h4, h5⟩ := h
    subst h4 h5
    exact ⟨h3, e, h2, by simpa using h1, rfl⟩

/-- Soundness of the index reads the index and the keys of the slots alone. -/
theorem IndexSound.congr {s t : State} (h : IndexSound s) (hi : t.index = s.index)
    (hs : ∀ i : Slot, t.slots[i].map Record.key = s.slots[i].map Record.key) : IndexSound t := by
  refine ⟨hi ▸ h.1, ?_, ?_⟩
  · intro e he; rw [hs]; exact h.2.1 e (hi ▸ he)
  · intro i r hr
    have := hs i
    rw [Option.mem_def.1 hr] at this
    cases hsi : s.slots[i] with
    | none => simp [hsi] at this
    | some r' =>
      simp [hsi] at this
      have := h.2.2 i r' hsi
      rw [hi]; simp_all

/-- An operation that leaves the index and the slots as they were keeps the index sound. -/
theorem IndexSound.eqs {s t : State} (h : IndexSound s) (hi : t.index = s.index) (hs : t.slots = s.slots) :
    IndexSound t := h.congr hi (by simp [hs])

/-- Rewriting a record in place keeps the index sound. -/
theorem IndexSound.setSlot {s : State} (h : IndexSound s) {i : Slot} {r r' : Record} (hr : s.slots[i] = some r)
    (hk : r'.key = r.key) : IndexSound (s.setSlot i (some r')) := by
  apply h.congr (by simp)
  intro j
  rw [State.setSlot_at]
  split
  · subst_vars; simp [hr, hk]
  · rfl

/-- Removing a record keeps the index sound (R20). -/
theorem IndexSound.remove {s : State} (h : IndexSound s) (i : Slot) : IndexSound (s.remove i) := by
  unfold State.remove
  split
  · exact h
  · rename_i r hr
    dsimp only
    have hir := h.2.2 i r hr
    refine ⟨?_, ?_, ?_⟩
    · simp; exact h.1.filter _
    · intro e he
      simp at he
      have := h.2.1 e he.1
      rw [State.setSlot_at]
      split
      · subst_vars; simp_all
      · simpa using this
    · intro j r' hr'
      rw [State.setSlot_at] at hr'
      split at hr'
      · simp at hr'
      · simp at hr'
        have := h.2.2 j r' hr'
        refine ⟨?_, this.2⟩
        simp [this.1]
        intro hk
        have key : (⟨r'.key, j⟩ : IndexEntry) = ⟨r.key, i⟩ := key_unique h.1 this.1 hir.1 hk
        simp at key
        simp_all

/-- Granting a hold keeps the index sound. -/
theorem IndexSound.grant {s : State} (h : IndexSound s) {i : Slot} {r r' : Record} (hr : s.slots[i] = some r)
    (hk : r'.key = r.key) (p : PortId) (len : Ticks) : IndexSound (s.grant i r' p len) := by
  unfold State.grant
  split
  · exact h.setSlot hr hk
  · exact (h.eqs (by simp) (by simp) : IndexSound (s.addDeadline .lease r'.key p len)).setSlot (r := r) (by simpa using hr) hk

/-- A handoff keeps the index sound (R56, R57). -/
theorem IndexSound.handoff {s : State} (h : IndexSound s) (i : Slot) : IndexSound (s.handoff i) := by
  unfold State.handoff
  split
  · exact h
  · rename_i r hr
    split
    · rename_i w rest hw
      have h1 : IndexSound (s.dropClaim w) := h.eqs (by simp) (by simp)
      have h2 := h1.grant (i := i) (r := r) (r' := { r with waiters := rest }) (by simpa using hr) rfl w.port w.leaseAsked
      exact h2.eqs (by simp) (by simp)
    · split
      · exact (h.eqs (by simp) (by simp) : IndexSound (s.notifyHolder i)).remove i
      · exact h.eqs (by simp) (by simp)

/-- The end of a hold keeps the index sound (R55). -/
theorem IndexSound.endHold {s : State} (h : IndexSound s) (i : Slot) (e : Bool) : IndexSound (s.endHold i e) := by
  unfold State.endHold
  split
  · exact h
  · rename_i r hr
    have h1 : IndexSound (s.dropHold i r) := by
      unfold State.dropHold
      exact (h.eqs (by simp) (by simp) : IndexSound (s.removeDeadline r.lease)).setSlot (r := r) (by simpa using hr) rfl
    split
    · exact (h1.eqs (by simp) (by simp) : IndexSound ((s.dropHold i r).leaseLost r)).handoff i
    · exact h1.handoff i

/-- Withdrawing a parked claim keeps the index sound. -/
theorem IndexSound.withdrawClaim {s : State} (h : IndexSound s) (i : Slot) (w : ParkedClaim) :
    IndexSound (s.withdrawClaim i w) := by
  unfold State.withdrawClaim
  split
  · exact h
  · rename_i r hr
    exact (h.eqs (by simp) (by simp) : IndexSound (s.dropClaim w)).setSlot (r := r) (by simpa using hr) rfl

/-- The end of a parked claim keeps the index sound (R52). -/
theorem IndexSound.endClaim {s : State} (h : IndexSound s) (i : Slot) (w : ParkedClaim) (st : Status) :
    IndexSound (s.endClaim i w st) := (h.withdrawClaim i w).eqs (by simp [State.endClaim]) (by simp [State.endClaim])

/-- The entries after one more is added. -/
theorem mem_insertIndex {e x : IndexEntry} {l : List IndexEntry} : x ∈ insertIndex e l ↔ x = e ∨ x ∈ l := by
  induction l with
  | nil => simp [insertIndex]
  | cons y rest ih =>
    simp only [insertIndex]; split
    · simp
    · simp [ih]; tauto

/-- An entry of a new key is added at its place in key order. -/
theorem pairwise_insertIndex {e : IndexEntry} {l : List IndexEntry} (h : l.Pairwise (fun a b => a.key < b.key))
    (hn : ∀ x ∈ l, x.key ≠ e.key) : (insertIndex e l).Pairwise (fun a b => a.key < b.key) := by
  induction l with
  | nil => simp [insertIndex]
  | cons y rest ih =>
    rw [List.pairwise_cons] at h
    simp only [insertIndex]; split
    · rename_i hlt
      rw [List.pairwise_cons, List.pairwise_cons]
      refine ⟨?_, h⟩
      intro a ha
      rcases List.mem_cons.1 ha with rfl | ha
      · exact hlt
      · have := h.1 a ha; bv_omega
    · rename_i hge
      rw [List.pairwise_cons]
      refine ⟨?_, ih h.2 fun x hx => hn x (List.mem_cons_of_mem _ hx)⟩
      intro a ha
      rcases mem_insertIndex.1 ha with rfl | ha
      · have := hn y (by simp)
        bv_omega
      · exact h.1 a ha

/-- Adding a record of a new key in a free slot keeps the index sound (R12). -/
theorem IndexSound.install {s : State} (h : IndexSound s) {i : Slot} {r : Record} (hi : s.slots[i] = none)
    (hn : ∀ e ∈ s.index, e.key ≠ r.key) (hk : r.key ≠ 0x0000 ∧ r.key ≠ 0xFFFF) : IndexSound (s.install i r) := by
  have h1 : IndexSound { s.setSlot i (some r) with index := insertIndex ⟨r.key, i⟩ s.index } := by
    refine ⟨pairwise_insertIndex h.1 hn, ?_, ?_⟩
    · intro e he
      show (s.setSlot i (some r)).slots[e.slot].map Record.key = _
      rw [State.setSlot_at]
      rcases mem_insertIndex.1 he with rfl | he
      · simp
      · have := h.2.1 e he
        split
        · subst_vars; simp_all
        · exact this
    · intro j r' hr'
      replace hr' : r' ∈ (s.setSlot i (some r)).slots[j] := hr'
      rw [State.setSlot_at] at hr'
      split at hr'
      · simp at hr'; subst_vars
        exact ⟨mem_insertIndex.2 (Or.inl rfl), hk⟩
      · have := h.2.2 j r' hr'
        exact ⟨mem_insertIndex.2 (Or.inr this.1), this.2⟩
  unfold State.install
  dsimp only
  split
  · exact h1
  · exact h1.eqs (by simp) (by simp)

/-- A key that the index does not find is listed nowhere. -/
theorem IndexSound.lookup_none {s : State} (h : IndexSound s) {k : Key} (hn : s.lookup k = none) :
    ∀ e ∈ s.index, e.key ≠ k := by
  intro e he hk
  unfold State.lookup at hn
  split at hn
  · rename_i hf
    have := List.find?_eq_none.1 hf e he
    simp [hk] at this
  · rename_i e' he'
    have h2 := List.mem_of_find?_eq_some he'
    have := h.2.1 e' h2
    simp at hn
    simp_all

/-- The slot chosen for a new record is free (R1). -/
theorem State.freeSlot_some {s : State} {i : Slot} (h : s.freeSlot = some i) : s.slots[i] = none := by
  have := List.find?_some h
  simpa using this

/-- R5. -/
theorem isRecordKey_iff {k : Key} : isRecordKey k = true ↔ k ≠ 0x0000 ∧ k ≠ 0xFFFF := by
  simp [isRecordKey]

/-- A home image that gives a record gives it under the image's key, a record key (R111, R112). -/
theorem imageRecord_key {m : Memory} {g : GroupId} {h : Fin 16} {r : Record} (hr : imageRecord m g h = some r) :
    r.key = imageKey m h ∧ (r.key ≠ 0x0000 ∧ r.key ≠ 0xFFFF) := by
  unfold Machine.imageRecord at hr
  split at hr
  · simp at hr
  · dsimp only at hr
    split at hr
    · rename_i hk
      simp at hr; subst hr
      exact ⟨rfl, isRecordKey_iff.1 hk.1⟩
    · simp at hr

end Sys2Proof.Machine
end

