-- ==== Sys2Proof/Tests/Slice0.lean ====
section
/-! SUPPORT. Tests of single commands on small states, their expected results from the manual's rules and worked
examples, and a witness for the hypotheses of each statement. -/

-- One theorem at a time: each of these waits for the kernel, and too many waiting at once run out of threads.
set_option Elab.async false

namespace Sys2Proof.Tests

open Sys2Proof.Machine

/-! ### Small states -/

/-- A serving part, empty, with P3 strapped SUPERVISOR. -/
def ready : State := { State.reset with
  phase := .running
  ports := #v[blankPort false .operator, blankPort false .operator, blankPort false .operator,
    blankPort false .supervisor] }

/-- A LIVE, volatile, unheld record: the first example of 2.10. -/
def counter (k : Key) : Record where
  key := k
  state := .live
  home := none
  guard := .isOpen
  value := 2
  floor := 0
  ceiling := 12
  generation := 30
  holder := none
  holdCount := 0
  lease := none
  waiters := []
  watchers := Vector.replicate 4 none

/-- The record held by a port. -/
def heldBy (r : Record) (p : PortId) (n : Nat) : Record := { r with holder := some p, holdCount := n }

/-- The record durable in a home. -/
def durable (r : Record) (h : HomeId) : Record := { r with home := some h }

/-- A state with one more record in a slot. -/
def hasRecord (s : State) (i : Slot) (r : Record) : State :=
  { s with
    slots := s.slots.set i (some r)
    index := insertIndex ⟨r.key, i⟩ s.index
    homeMap := match r.home with
      | none => s.homeMap
      | some h => s.homeMap.set h.group (s.homeMap[h.group].set h.home (.occupied i)) }

/-- A request frame under tag 4. -/
def ask (code : Byte) (k : Key) (ops : List Byte) : RequestFrame := ⟨code, 4, k, ops⟩

/-- A state with a request of a port in progress (R147). -/
def asks (s : State) (p : PortId) (f : RequestFrame) : State :=
  { s.modifyPort p fun q => { q with reserved := q.reserved ++ [f.tag], tags := q.tags ++ [f.tag] } with
    pointer := p, item := some ⟨.request p f, s.time⟩ }

/-- One record in slot 0 and one request on it at a port. -/
def demo (r : Record) (p : PortId) (code : Byte) (ops : List Byte) : State :=
  asks (hasRecord ready 0 r) p (ask code r.key ops)

/-- A state with an internal event in progress. -/
def raised (s : State) (e : Event) : State := { s with item := some ⟨.event e, s.time⟩ }

/-- A state with a group record in a given state. -/
def inGroup (s : State) (g : GroupId) (x : GroupState) : State := s.setGroup g { s.groups[g] with state := x }

/-- A state with a transaction in progress at P0. -/
def talking (s : State) (x : Transaction) : State := s.modifyPort 0 fun q => { q with transaction := x }

/-- The state a command answers. -/
def after (c : Instr) (s : State) : State :=
  match exec c s with
  | .next t => t
  | .fault _ => State.reset
  | .refused _ => State.reset

/-- The record in slot 0 after a command. -/
def slot0 (c : Instr) (s : State) : Option Record := (after c s).slots[0]

/-- The client whose item is in progress after a command. -/
def client (c : Instr) (s : State) : Option Client := (after c s).item.map Item.client

/-- The newest filled reply of a port after a command. -/
def reply (p : PortId) (c : Instr) (s : State) : Option (Status × Payload) :=
  (after c s).ports[p].filled.getLast?.map fun r => (r.status, r.payload)

/-! ### Well-formed commands -/

theorem test_unknown_transaction_of_submit_ill_formed : WellFormed (.unknownTransaction 0 0xA1) = false := by decide

theorem test_unknown_transaction_well_formed : WellFormed (.unknownTransaction 0 0xA0) = true := by decide

theorem test_no_word_spells_a_command : decodeTableWord 8 0x10 = none := rfl

/-! ### Value updates: 2.10 -/

theorem test_take_one :
    (slot0 (.take 0) (demo (counter 0x120) 0 0x23 [0, 0, 0, 1])).map (fun r => (r.value, r.generation))
      = some (1, 31) := by decide +kernel

theorem test_take_goes_short :
    (reply 3 (.take 3) (demo { counter 0x120 with value := 0, generation := 32 } 3 0x23 [0, 0, 0, 3]))
      = some (.ok, .value 0) := by decide +kernel

theorem test_give_one :
    (slot0 (.give 0) (demo { counter 0x120 with value := 0, generation := 32 } 0 0x24 [0, 0, 0, 1])).map
      (fun r => (r.value, r.generation)) = some (1, 33) := by decide +kernel

theorem test_add_clips :
    (slot0 (.add 1) (demo { counter 0x455 with ceiling := 10, value := 8, generation := 5 } 1 0x22 [0, 0, 0, 5])).map
      (fun r => (r.value, r.generation)) = some (10, 6) := by decide +kernel

theorem test_add_negative :
    (slot0 (.add 3) (demo { counter 0x455 with ceiling := 10, value := 10, generation := 6 } 3 0x22
      [0xFF, 0xFF, 0xFF, 0xFD])).map (fun r => (r.value, r.generation)) = some (7, 7) := by decide +kernel

theorem test_set_if_stale :
    reply 3 (.setIf 3) (demo { counter 0x0A02 with ceiling := 999999, value := 45, generation := 18 } 3 0x21
      [0, 0, 0, 38, 0, 17]) = some (.stale, .value 45) := by decide +kernel

theorem test_set_if_marks_the_group :
    (after (.setIf 1) (demo (durable { counter 0x0A02 with ceiling := 999999, value := 40, generation := 17 } ⟨4, 3⟩) 1
      0x21 [0, 0, 0, 45, 0, 17])).queue = [4] := by decide +kernel

theorem test_bitset_lane :
    (after (.bitset 1) (demo { counter 0x702 with ceiling := 255, value := 4, generation := 1 } 1 0x25
      [0, 0, 0, 4])).ports[1].filled.map (fun r => (r.flags.prior, r.generation)) = [(true, some 1)] := by
  decide +kernel

theorem test_bitset_out_of_range :
    reply 2 (.bitset 2) (demo { counter 0x702 with ceiling := 255, value := 8, generation := 3 } 2 0x25
      [0, 0, 1, 0]) = some (.range, .value 8) := by decide +kernel

theorem test_bitclr_lane :
    (slot0 (.bitclr 0) (demo { counter 0x702 with ceiling := 255, value := 12, generation := 2 } 0 0x26
      [0, 0, 0, 4])).map (fun r => (r.value, r.generation)) = some (8, 3) := by decide +kernel

theorem test_set_refused_to_a_former_holder :
    reply 0 (.set 0) (demo (heldBy { counter 0x250 with guard := .holder, ceiling := 1, value := 0 } 1 1) 0 0x20
      [0, 0, 0, 1]) = some (.notHolder, .holder (some 1)) := by decide +kernel

/-! ### Holds: 3.8 and 4.7 -/

/-- Record 0250h of 3.8. -/
def station : Record := { counter 0x250 with guard := .holder, ceiling := 1, value := 0, generation := 12 }

theorem test_claim_unheld :
    reply 0 (.claim 0) (demo station 0 0x30 [0, 0, 0, 0, 0]) = some (.granted, .hold ⟨some 0, 1, none, 0⟩) := by
  decide +kernel

theorem test_claim_further_with_lease :
    reply 0 (.claim 0) (demo (heldBy station 0 1) 0 0x30 [1, 1, 0xF4, 0x0B, 0xB8])
      = some (.granted, .hold ⟨some 0, 2, some 3000, 0⟩) := by decide +kernel

/-- The station held by P0, with P1's claim of step 4 waiting. -/
def waited : Record := { heldBy station 0 1 with waiters := [⟨1, 8, 0x250, 2000, .unlimited⟩] }

theorem test_release_hands_on :
    (after (.release 0) ((demo waited 0 0x31 [0]).modifyPort 1 fun q =>
      { q with reserved := [8], tags := [8], parked := 1 })).ports[1].filled.map (fun r => (r.tag, r.status, r.payload))
      = [(8, .granted, .hold ⟨some 1, 1, some 2000, 0⟩)] := by decide +kernel

theorem test_release_names_the_next_holder :
    reply 0 (.release 0) (demo waited 0 0x31 [0]) = some (.ok, .holderCount (some 1) 0) := by decide +kernel

theorem test_cancel_wait :
    (after (.cancelWait 1) ((demo waited 1 0x33 []).modifyPort 1 fun q =>
      { q with reserved := [8, 4], tags := [8, 4], parked := 1 })).ports[1].filled.map (fun r => (r.tag, r.status))
      = [(8, .cancelled), (4, .ok)] := by decide +kernel

theorem test_renew_refused :
    reply 2 (.renew 2) (demo (heldBy (counter 0x388) 0 1) 2 0x32 [1, 0x90])
      = some (.notHolder, .holderCount (some 0) 1) := by decide +kernel

/-- Record 0388h of 4.7 at t = 10,400, with its lease's event raised. -/
def silent : State :=
  raised { hasRecord ready 0 { heldBy (counter 0x388) 2 2 with lease := some 41 } with time := 10400, serial := 42 }
    (.expiry .lease 0x388 2 41)

theorem test_lease_expiry : (slot0 .leaseExpiry silent).map (fun r => (r.holder, r.holdCount, r.lease))
    = some (none, 0, none) := by decide +kernel

theorem test_lease_expiry_tells_the_holder :
    (after .leaseExpiry silent).ports[2].notices
      = [.record 0x388 ⟨false, false, false, false, true⟩ 2 30 none] := by decide +kernel

theorem test_wait_expiry :
    (after .waitExpiry ((raised (hasRecord ready 0 { heldBy station 0 1 with
      waiters := [⟨1, 8, 0x250, 2000, .limited 5000 9⟩] }) (.expiry .wait 0x250 1 9)).modifyPort 1 fun q =>
        { q with reserved := [8], tags := [8], parked := 1 })).ports[1].filled.map (fun r => (r.tag, r.status))
      = [(8, .waitExpired)] := by decide +kernel

/-! ### Records: 1.8 -/

/-- Record 0310h of 1.8. -/
def doomed : Record :=
  { heldBy (durable { counter 0x310 with ceiling := 50, value := 7, generation := 41 } ⟨2, 5⟩) 1 1 with
    watchers := #v[some ⟨true, false, true⟩, none, none, some ⟨false, true, false⟩] }

theorem test_retire_of_a_held_record :
    reply 0 (.retire 0) (demo doomed 0 0x13 []) = some (.ok, .recState .retiring) := by decide +kernel

theorem test_retire_tells_the_life_watcher :
    (after (.retire 0) (demo doomed 0 0x13 [])).ports[0].notices
      = [.record 0x310 ⟨false, false, true, false, false⟩ 7 41 (some 1)] := by decide +kernel

theorem test_last_release_removes_a_retiring_record :
    (fun t : State => (t.slots[0], t.index, t.home ⟨2, 5⟩, t.queue))
      (after (.release 1) (demo { doomed with state := .retiring } 1 0x31 [0]))
      = (none, [], .vacated 0x310, [2]) := by decide +kernel

/-- The CREATE of step 6. -/
def recreate : RequestFrame := ask 0x10 0x310 ([1, 1] ++ bytes32 0 ++ bytes32 100 ++ bytes32 0)

theorem test_create_takes_the_vacated_home :
    reply 3 (.create 3) (asks (ready.setHome ⟨2, 5⟩ (.vacated 0x310)) 3 recreate)
      = some (.ok, .home (some ⟨2, 5⟩)) := by decide +kernel

theorem test_create_of_a_retiring_key :
    reply 3 (.create 3) (asks (hasRecord ready 0 { doomed with state := .retiring }) 3 recreate)
      = some (.keyExists, .recState .retiring) := by decide +kernel

theorem test_find_absent : reply 0 (.find 0) (asks ready 0 (ask 0x11 0x310 [])) = some (.noKey, .absent) := by
  decide +kernel

theorem test_next_after_the_last_key :
    reply 0 (.next 0) (asks (hasRecord ready 0 (counter 0x120)) 0 (ask 0x12 0x120 [])) = some (.done, .absent) := by
  decide +kernel

theorem test_set_guard_privilege :
    reply 0 (.setGuard 0) (demo (counter 0x120) 0 0x14 [3]) = some (.privilege, .absent) := by decide +kernel

theorem test_bad_request_of_a_short_set :
    reply 0 (.badRequest 0) (demo (counter 0x120) 0 0x20 [0]) = some (.badRequest, .absent) := by decide +kernel

/-! ### Notices: 5.9 -/

theorem test_watch : reply 2 (.watch 2) (demo (counter 0x120) 2 0x40 [3])
    = some (.ok, .watch ⟨true, true, false⟩ 2 none 1) := by decide +kernel

theorem test_unwatch_of_no_watch : reply 2 (.unwatch 2) (demo (counter 0x120) 2 0x41 [])
    = some (.notWatching, .watchCount 0) := by decide +kernel

theorem test_gate_opens : (after (.gate 2) (asks ready 2 (ask 0x42 0 [1]))).ports[2].gate = .isOpen := by
  decide +kernel

/-- R175, log 36. -/
theorem test_gate_of_a_port_reset_meanwhile :
    (after (.gate 2) (after (.prstAsserted 2) (asks ready 2 (ask 0x42 0 [1])))).ports[2].gate = .shut := by
  decide +kernel

/-- The notices of 5.9, step 4: the VALUE notices of 0120h and the HOLDER notice of 0250h. -/
def value120 (v : Word) (g : Gen) : Notice := .record 0x120 ⟨true, false, false, false, false⟩ v g none
def holder250 : Notice := .record 0x250 ⟨false, true, false, false, false⟩ 0 12 (some 1)

theorem test_fetch_notice_takes_the_head :
    (fun q : Port => (q.held, q.notices)) (after (.fetchNotice 0) (talking (ready.modifyPort 0 fun q =>
      { q with notices := [value120 0 32, holder250] }) .begun)).ports[0]
      = (some ⟨value120 0 32, false⟩, [holder250]) := by decide +kernel

theorem test_cut_short_notice_is_put_back_merged :
    (after (.fetchNoticeRelease 0 13) (talking (ready.modifyPort 0 fun q =>
      { q with held := some ⟨value120 0 32, false⟩, notices := [holder250, value120 1 33] }) .notice)).ports[0].notices
      = [value120 1 33, holder250] := by decide +kernel

/-! ### Ports: 9.9 and chapter 11 -/

/-- The CRC-16 of R163 over the nine digits 1 to 9, a check value in general use for it. -/
theorem test_crc16 : crc16 [0x31, 0x32, 0x33, 0x34, 0x35, 0x36, 0x37, 0x38, 0x39] = 0x29B1 := by decide +kernel

/-- The CRC-32 of R104 over the same digits, in its general use (log 18). -/
theorem test_crc32 : crc32 [0x31, 0x32, 0x33, 0x34, 0x35, 0x36, 0x37, 0x38, 0x39] = 0xCBF43926 := by decide +kernel

/-- P1 of 9.9 after step 6, but for the frames of the filled replies and the queued requests. -/
def filling : State :=
  talking (ready.modifyPort 0 fun q => { q with
    requests := [ask 0x11 0x310 [], ask 0x20 0x120 [0, 0, 0, 0], ask 0x11 0x455 [], ask 0x11 0x702 []]
    reserved := [0]
    filled := [⟨1, 0x11, .noKey, ⟨false, false, false, false⟩, none, .absent⟩,
      ⟨2, 0x11, .noKey, ⟨false, false, false, false⟩, none, .absent⟩,
      ⟨3, 0x22, .noKey, ⟨false, false, false, false⟩, none, .absent⟩]
    tags := [0, 1, 2, 3, 4, 5, 6, 7], parked := 1, lastSubmit := .badLength }) .begun

theorem test_peek : (after (.peek 0) filling).ports[0].sdo = [3, 1, 4, 1, 0, 3] := by decide +kernel

/-- R147, R169: a request that the engine has taken is counted with the reserved entries, not with the queued. -/
theorem test_peek_counts_the_request_taken :
    (after (.peek 0) (after (.transactionBegin 0)
      (after (.submit 0 (RequestFrame.bytes (ask 0x11 0x310 []))) (talking ready .begun)))).ports[0].sdo
      = [0x80, 0, 1, 0, 0, 0, 1] := by decide +kernel

theorem test_status_byte : (after (.transactionBegin 0) filling).ports[0].sdo = [0xC2] := by decide +kernel

theorem test_submit_tag_in_use :
    (after (.submit 0 (RequestFrame.bytes ⟨0x11, 5, 0x0A02, []⟩)) filling).ports[0].lastSubmit = .tagInUse := by
  decide +kernel

theorem test_submit_bad_length :
    (after (.submit 0 (RequestFrame.bytes ⟨0x11, 9, 0x0A02, []⟩ ++ [0])) filling).ports[0].lastSubmit
      = .badLength := by decide +kernel

theorem test_unknown_transaction :
    (after (.unknownTransaction 0 0xA5) filling).ports[0].lastSubmit = .badTransaction := by decide +kernel

/-- A cut-short FETCH, and a frame sent by SUBMIT: 11.1. -/
theorem test_transaction_codes :
    transactionCommands 1 [0xA2, 0, 0] = [.transactionBegin 1, .fetch 1, .fetchRelease 1 2]
      ∧ transactionCommands 2 [0xA1, 7] = [.transactionBegin 2, .submit 2 [7]]
      ∧ transactionCommands 0 [0xA0, 7] = [.transactionBegin 0, .unknownTransaction 0 0xA0] := by decide +kernel

theorem test_fill_byte_after_peek : (after (.peek 0) filling).ports[0].driven 6 = 0x00 := by decide +kernel

theorem test_fetch_sends_the_oldest :
    (after (.fetch 0) filling).ports[0].sdo.take 4 = [0x09, 0x11, 0x01, 0x11] := by decide +kernel

theorem test_fetch_whole_frees_the_tag :
    (after (.fetchRelease 0 9) (after (.fetch 0) filling)).ports[0].tags = [0, 2, 3, 4, 5, 6, 7] := by decide +kernel

theorem test_fetch_cut_short :
    (after (.fetchRelease 0 8) (after (.fetch 0) filling)).ports[0].filled.length = 3 := by decide +kernel

/-! ### Timer, pins and reset -/

theorem test_tick : (after .tick { ready with time := 0xFFFFFFFF }).time = 0 := by decide +kernel

theorem test_falling_due :
    client .fallingDue { ready with time := 10400, deadlines := [⟨.lease, 0x388, 2, 10400, 41⟩] }
      = some (.event (.expiry .lease 0x388 2 41)) := by decide +kernel

/-- R63, R141: a lease counts from the item's one reading of device time. -/
theorem test_lease_counts_from_the_reading :
    (after (.claim 0) (after .tick (demo station 0 0x30 [0, 0, 0, 0, 5]))).deadlines.map Deadline.due = [5] := by
  decide +kernel

/-- R67: a due tick that device time has reached already. -/
theorem test_late_deadline_falls_due_at_once :
    client (.claim 0) (after .tick (demo station 0 0x30 [0, 0, 0, 0, 1]))
      = some (.event (.expiry .lease 0x250 0 1)) := by decide +kernel

/-- R77: an entry of the list due at the same tick was added earlier and falls due first. -/
theorem test_late_deadline_waits_for_the_due_list :
    (after (.claim 0) (after .tick { demo station 0 0x30 [0, 0, 0, 0, 1] with
      deadlines := [⟨.lease, 0x388, 2, 1, 41⟩] })).waiting
      = [.expiry .lease 0x388 2 41, .expiry .lease 0x250 0 1] := by decide +kernel

theorem test_prst_empties_the_port : (after (.prstAsserted 0) filling).ports[0].filled = [] := by decide +kernel

theorem test_prst_raises_the_eviction : client (.prstAsserted 0) filling = some (.event (.eviction 0)) := by
  decide +kernel

/-- R149: the item of a request taken before the assertion is served in full, and its reply is discarded. -/
theorem test_item_goes_on_at_prst :
    (fun t : State => (t.slots[0].map Record.value, t.ports[0].filled))
      (after (.take 0) (after (.prstAsserted 0) (demo (counter 0x120) 0 0x23 [0, 0, 0, 1]))) = (some 1, []) := by
  decide +kernel

theorem test_prst_deasserted :
    (after (.prstDeasserted 0) (after (.prstAsserted 0) filling)).ports[0].prst = false := by decide +kernel

theorem test_device_reset : (after .deviceReset { ready with pointer := 1 }).pointer = 3 := by decide +kernel

theorem test_loss_of_power : (after .lossOfPower ready).phase = .off := by decide +kernel

theorem test_restore_samples_the_straps :
    (after (.restore .operator .supervisor .operator .operator) State.reset).ports[1].privilege = .supervisor := by
  decide +kernel

theorem test_restore_end : (after .restoreEnd { ready with phase := .restoring }).phase = .running := by
  decide +kernel

theorem test_pfw_deasserted : (after .pfwDeasserted { ready with pfw := true }).pfw = false := by decide +kernel

/-! ### Rewrites and SYNC: 7.9 -/

/-- 7.9 at t = 50,010: group 3 ERASING, groups 9 and 7 QUEUED; and record 0A44h, home 7.2. -/
def urgent : State :=
  let s := inGroup (inGroup ready 9 .queued) 7 .queued
  hasRecord { s.setGroup 3 { s.groups[3] with
      state := .rewriting .erasing .first, capture := some (Vector.replicate 16 .free), current := some .a, wear := 1204
      ticks := 10 } with active := some 3, queue := [9, 7] } 0 (durable (counter 0x0A44) ⟨7, 2⟩)

theorem test_sync_promotes :
    (fun t : State => (t.queue, t.pauseOrdered, t.ports[1].parked))
      (after (.sync 1) (asks urgent 1 (ask 0x50 0x0A44 []))) = ([7, 9], true, 1) := by decide +kernel

theorem test_erase_paused :
    (fun t : State => (t.active, t.suspended, t.queue))
      (after .erasePaused { urgent with queue := [7, 9], pauseOrdered := true }) = (some 7, some 3, [9]) := by
  decide +kernel

theorem test_rewrite_start : client .rewriteStart { ready with queue := [7] } = some (.event (.capture 7)) := by
  decide +kernel

theorem test_capture_event :
    (after .captureEvent (raised (inGroup { ready with active := some 7 } 7 (.rewriting .captured .first))
      (.capture 7))).groups[7].state = .rewriting .erasing .first := by decide +kernel

theorem test_erase_done : (after (.eraseDone true) urgent).groups[3].state = .rewriting .programming .first := by
  decide +kernel

theorem test_erase_timeout : (after .eraseTimeout urgent).groups[3].state = .rewriting .erasing .retry := by
  decide +kernel

/-- Group 3 of 7.9 in a later phase. -/
def later (ph : RewritePhase) : State :=
  urgent.setGroup 3 { urgent.groups[3] with state := .rewriting ph .first, ticks := 3 }

theorem test_programming_done :
    (fun m : Memory => (m.read 0, m.word 1)) ((after (.programmingDone true) (later .programming)).bank 3 .b)
      = (3, 1205) := by decide +kernel

theorem test_program_timeout :
    (after .programTimeout (later .programming)).groups[3].state = .rewriting .erasing .retry := by decide +kernel

theorem test_commit_mark_done :
    (fun x : Group => (x.current, x.wear, x.state)) (after (.commitMarkDone true) (later .committing)).groups[3]
      = (some .b, 1205, .clean) := by decide +kernel

/-- 10.5 and 7.4: a GROUP-STATUS whose item is in progress at the switch reports the group as switched, its commit event
waiting. -/
theorem test_group_status_before_the_commit_event :
    (fun t : State => (t.item.map Item.client, t.ports[2].filled.map Reply.payload))
      (after (.groupStatus 2) (after (.commitMarkDone true) (asks { later .committing with queue := [] } 2
        (ask 0x63 0 [3])))) = (some (.event (.committed 3 [])), [.groupStatus { urgent.groupReport 3 with
          state := .clean, captureHeld := false, current := some .b, wear := 1205 }]) := by decide +kernel

/-- R122: the retry's erase has its own 400 ticks, however often the rewrite was suspended. -/
theorem test_late_erase_fails :
    (after (.eraseDone true) (urgent.setGroup 3 { urgent.groups[3] with ticks := 401, suspendCount := 4 })).groups[3].state
      = .rewriting .erasing .retry := by decide +kernel

theorem test_commit_mark_timeout :
    (after .commitMarkTimeout (later .committing)).groups[3].state = .rewriting .erasing .retry := by decide +kernel

theorem test_commit_event_answers_the_sync :
    (after .commitEvent (raised ((ready.setGroup 7 { blankGroup with
        current := some .b, wear := 312, syncs := [⟨1, 5, 0x0A44, true⟩] }).modifyPort 1 fun q =>
          { q with reserved := [5], tags := [5], parked := 1 }) (.committed 7 []))).ports[1].filled.map
      (fun r => (r.tag, r.status)) = [(5, .synced)] := by decide +kernel

theorem test_faulted_event_tells_the_supervisor :
    (after .commitEventFaulted (raised (inGroup ready 7 .faulted) (.faulted 7))).ports[3].notices
      = [.device ⟨true, false, false, false⟩ (some 7)] := by decide +kernel

theorem test_pfw_abandons :
    (fun t : State => (t.queue, t.active)) (after .pfwAsserted urgent) = ([3, 9, 7], none) := by decide +kernel

/-! ### Supervision: chapter 10 -/

theorem test_evict_hands_on :
    (slot0 (.evict 3) (asks (hasRecord ready 0 { heldBy station 2 3 with
      waiters := [⟨1, 8, 0x250, 500, .unlimited⟩] }) 3 (ask 0x60 0 [2]))).map (fun r => (r.holder, r.holdCount))
      = some (some 1, 1) := by decide +kernel

theorem test_evict_report :
    reply 3 (.evict 3) (asks (hasRecord ready 0 (heldBy station 2 3)) 3 (ask 0x60 0 [2]))
      = some (.ok, .evict ⟨2, 1, 0, 0, 0, 0⟩) := by decide +kernel

theorem test_eviction_event :
    (slot0 .evictionEvent (raised (hasRecord ready 0 (heldBy station 2 3)) (.eviction 2))).map Record.holder
      = some none := by decide +kernel

theorem test_clear_fault :
    reply 3 (.clearFault 3) (asks (inGroup ready 7 .faulted) 3 (ask 0x61 0 [7]))
      = some (.ok, .clearFault 7 .queued 1) := by decide +kernel

theorem test_census_counts_slots :
    (match reply 0 (.census 0) (asks (hasRecord ready 0 (counter 0x120)) 0 (ask 0x62 0 [])) with
      | some (_, .census x) => some (x.live, x.freeSlots, x.freeHomes)
      | _ => none) = some (1, 511, 256) := by decide +kernel

theorem test_group_status_of_no_group :
    reply 0 (.groupStatus 0) (asks ready 0 (ask 0x63 0 [16])) = some (.badOperand, .absent) := by decide +kernel

end Sys2Proof.Tests
end

