-- ==== Sys2Proof/Tests/Witnesses.lean ====
section
/-! SUPPORT. For each statement with hypotheses, a state and operands that meet them together; a statement of several
clauses has one for each clause. -/

-- One theorem at a time: each of these waits for the kernel, and too many waiting at once run out of threads.
set_option Elab.async false

namespace Sys2Proof.Tests

open Sys2Proof.Machine

/-! ### States with one record -/

/-- The only record of a state with slot 0 filled. -/
theorem only_slot {s : State} {r : Record} (h : s.slots = (Vector.replicate 512 none).set 0 (some r))
    {j : Slot} {x : Record} (hx : s.slots[j] = some x) : j = 0 ∧ x = r := by
  rw [h] at hx
  simp [Vector.getElem_set] at hx
  exact ⟨Fin.ext hx.1.symm, hx.2.symm⟩

theorem only_record_sound {s : State} {r : Record} (h : s.slots = (Vector.replicate 512 none).set 0 (some r))
    (hr : RecordSound r) : RecordsSound s := by
  intro j x hx
  rw [(only_slot h hx).2]
  exact hr

theorem only_record_indexed {s : State} {r : Record}
    (h : s.slots = (Vector.replicate 512 none).set 0 (some r)) (hi : s.index = [⟨r.key, 0⟩])
    (hk : r.key ≠ 0x0000 ∧ r.key ≠ 0xFFFF) : IndexSound s := by
  refine ⟨by simp [hi], ?_, ?_⟩
  · intro e he
    rw [hi] at he
    obtain rfl := List.mem_singleton.1 he
    simp [h]
  · intro j x hx
    obtain ⟨rfl, rfl⟩ := only_slot h hx
    exact ⟨by simp [hi], hk⟩

/-- What is parked on the table of such a state is parked on its record. -/
theorem only_record_parks {s : State} {r : Record} (h : s.slots = (Vector.replicate 512 none).set 0 (some r)) :
    s.parkedClaims = r.waiters.length := by
  unfold State.parkedClaims
  rw [List.finRange_succ, List.map_cons, List.sum_cons, List.map_map, h]
  have : ∀ l : List (Fin 511), (l.map ((fun i : Fin 512 => (((Vector.replicate 512 none).set 0 (some r))[i].map
      fun r => r.waiters.length).getD 0) ∘ Fin.succ)).sum = 0 := by
    intro l
    induction l with
    | nil => rfl
    | cons a l ih => rw [List.map_cons, List.sum_cons, ih]; simp
  rw [this]
  rfl

theorem only_record_tags {s : State} {r : Record} (h : s.slots = (Vector.replicate 512 none).set 0 (some r))
    (p : PortId) : s.parkedTags p = (r.waiters.filter fun w => decide (w.port = p)).map ParkedClaim.tag
      ++ (List.finRange 16).flatMap fun g => (s.groups[g].syncs.filter fun w => decide (w.port = p)).map ParkedSync.tag := by
  unfold State.parkedTags State.syncTags
  rw [List.finRange_succ, List.flatMap_cons, List.flatMap_map, h]
  have : ∀ l : List (Fin 511), (l.flatMap (fun i : Fin 511 => (((Vector.replicate 512 none).set 0 (some r))[i.succ].map
      fun r => (r.waiters.filter fun w => decide (w.port = p)).map ParkedClaim.tag).getD [])) = [] := by
    intro l
    induction l with
    | nil => rfl
    | cons a l ih => rw [List.flatMap_cons, ih]; simp
  rw [this, List.append_nil]
  rfl

/-- A serving part with one durable record and a request for it. -/
def served : State := demo (durable (counter 0x120) ⟨2, 5⟩) 0 0x23 [0, 0, 0, 1]

theorem served_slots : served.slots = (Vector.replicate 512 none).set 0 (some (durable (counter 0x120) ⟨2, 5⟩)) := rfl

theorem served_index : IndexSound served := only_record_indexed served_slots rfl (by decide)

theorem served_records : RecordsSound served := only_record_sound served_slots (by decide +kernel)

theorem served_home (g : GroupId) (h : Fin 16) :
    served.home ⟨g, h⟩ = if g = 2 ∧ h = 5 then .occupied 0 else .free := by
  show ((Vector.replicate 16 (Vector.replicate 16 Home.free)).set 2
    ((Vector.replicate 16 Home.free).set 5 (.occupied 0)))[g][h] = _
  by_cases hg : g = 2
  · subst hg
    by_cases hh : h = 5
    · subst hh
      rfl
    · have h5 : ¬ 5 = h.val := fun e => hh (Fin.ext e.symm)
      simp [h5, hh]
  · have h2 : ¬ 2 = g.val := fun e => hg (Fin.ext e.symm)
    simp [h2, hg]

theorem served_homes : HomesSound served := by
  constructor
  · intro g h i hi
    rw [served_home] at hi
    split at hi
    · rename_i e
      obtain ⟨rfl, rfl⟩ := e
      obtain rfl := Option.some.inj hi
      rfl
    · exact absurd hi nofun
  · intro j x hx h hh
    obtain ⟨rfl, rfl⟩ := only_slot served_slots hx
    obtain rfl := Option.some.inj hh
    exact served_home 2 5

theorem running_held {s : State} (h : s.phase = .running) : HeldSound s := by
  intro h'
  rw [h] at h'
  rcases h' with h' | h' <;> exact absurd h' (by decide)

/-- The served state with a command waiting. -/
def queued (c : Instr) : State := { served with pending := [c] }

/-! ### The machine as a whole and its invariants -/

theorem witness_StepRunsTheFrontCommand :
    (queued (.take 0)).pending = .take 0 :: [] ∧ served.pending = [] := ⟨rfl, rfl⟩

/-- The same request still queued, and the Table Engine free. -/
def unserved : State := ready.modifyPort 0 fun q => { q with requests := [ask 0x23 0x120 [0, 0, 0, 1]], tags := [4] }

/-- A free engine with an eviction event raised. -/
def eventful : State := { unserved with events := [.eviction 1] }

theorem witness_EngineTakesTheClientOfR143 :
    (State.reset.phase ≠ .running ∧ served.item ≠ none)
      ∧ (eventful.phase = .running ∧ eventful.item = none ∧ eventful.events = .eviction 1 :: [])
      ∧ (unserved.phase = .running ∧ unserved.item = none ∧ unserved.events = []
        ∧ unserved.ports[(0 : PortId)].requests.head? = some (ask 0x23 0x120 [0, 0, 0, 1])
        ∧ unserved.ports[(0 : PortId)].reserved.length + unserved.ports[(0 : PortId)].filled.length < 4
        ∧ ∀ q : PortId, (q - unserved.pointer - 1).val < ((0 : PortId) - unserved.pointer - 1).val →
          unserved.ports[q].requests = [] ∨ 4 ≤ unserved.ports[q].reserved.length + unserved.ports[q].filled.length)
      ∧ (ready.events = [] ∧ ∀ q : PortId,
        ready.ports[q].requests = [] ∨ 4 ≤ ready.ports[q].reserved.length + ready.ports[q].filled.length)
      ∧ (Instr.take 0 ∈ requestRows 0 ∧ ∀ f, ¬ Serves ready (.request 0 f))
      ∧ (Instr.leaseExpiry ∈ eventRows ∧ ∀ e, ¬ Serves served (.event e))
      ∧ (served.item = some ⟨.request 0 (ask 0x23 0x120 [0, 0, 0, 1]), 0⟩ ∧ ∃ t, exec .tick served = .next t) := by
  refine ⟨by decide, by decide +kernel, by decide +kernel, by decide +kernel, ⟨by decide, ?_⟩, ⟨by decide, ?_⟩,
    rfl, _, rfl⟩
  · exact fun f hf => absurd hf nofun
  · exact fun e he => absurd he nofun

theorem witness_RecordsChangeAsR2ToR4Say : ∃ t r', exec (.take 0) served = .next t
    ∧ served.slots[(0 : Slot)] = some (durable (counter 0x120) ⟨2, 5⟩) ∧ t.slots[(0 : Slot)] = some r' :=
  ⟨after (.take 0) served, _, rfl, rfl, (by decide +kernel : _ = some
    { durable (counter 0x120) ⟨2, 5⟩ with value := 1, generation := 31 })⟩

theorem witness_TimeBanksAndPrivilegesMoveOnlyAsSaid :
    ∃ t, exec (.eraseDone true) urgent = .next t ∧ urgent.groups[(3 : GroupId)].current = some .a := ⟨_, rfl, rfl⟩

theorem witness_StepKeepsIndexAndHomes : ∃ t, (HeldSound (queued (.take 0)) ∧ IndexSound (queued (.take 0))
    ∧ HomesSound (queued (.take 0))) ∧ step (queued (.take 0)) = .next t :=
  ⟨_, ⟨running_held rfl, served_index, served_homes⟩, rfl⟩

theorem witness_StepKeepsRecordsSound :
    ∃ t, RecordsSound (queued (.take 0)) ∧ step (queued (.take 0)) = .next t := ⟨_, served_records, rfl⟩

/-- A serving state with a rewrite active and a group queued. -/
def busy : State :=
  { (inGroup ready 9 .queued).setGroup 3 urgent.groups[3] with
    active := some 3, queue := [9], pending := [.eraseDone true] }

theorem served_ports : PortsSound served := by unfold PortsSound PortSound EngineSound; decide +kernel

theorem busy_queue : QueueSound busy := by unfold QueueSound; decide +kernel

theorem witness_StepKeepsPortsSound :
    ∃ t, PortsSound (queued (.take 0)) ∧ step (queued (.take 0)) = .next t := ⟨_, served_ports, rfl⟩

/-- A part whose banks are all erased and whose groups have not failed. -/
theorem erased_banks {s : State} (hb : s.banks = Vector.replicate 16 ⟨[], []⟩)
    (hf : ∀ g : GroupId, s.groups[g].state ≠ .faulted) : BanksSound s := by
  intro g
  have h : s.banks[g] = ⟨[], []⟩ := by simp [hb]
  rw [h]
  exact ⟨rfl, rfl, fun hg => absurd hg (hf g)⟩

theorem witness_StepKeepsTheStoreSound :
    ∃ t, (HeldSound busy ∧ QueueSound busy ∧ BanksSound busy) ∧ step busy = .next t :=
  ⟨_, ⟨running_held rfl, busy_queue, erased_banks rfl (by decide +kernel)⟩, rfl⟩

/-- A serving part with one durable record, whose group's rewrite holds a capture of it. -/
def holdsImage : State :=
  let s := hasRecord ready 0 (durable (counter 0x120) ⟨3, 5⟩)
  { s.setGroup 3 { s.groups[3] with
      state := .rewriting .erasing .first
      capture := some ((Vector.replicate 16 .free).set 5 (.occupied ⟨0x120, 2, 0, 12, .isOpen, 30⟩)) } with
    active := some 3, pending := [.eraseDone true] }

theorem holdsImage_slots :
    holdsImage.slots = (Vector.replicate 512 none).set 0 (some (durable (counter 0x120) ⟨3, 5⟩)) := rfl

theorem holdsImage_home (h : HomeId) : holdsImage.home h = if h = ⟨3, 5⟩ then .occupied 0 else .free := by
  obtain ⟨g, h⟩ := h
  show ((Vector.replicate 16 (Vector.replicate 16 Home.free)).set 3
    ((Vector.replicate 16 Home.free).set 5 (.occupied 0)))[g][h] = _
  revert g h
  decide +kernel

theorem holdsImage_key (h : HomeId) : holdsImage.homeKey h = if h = ⟨3, 5⟩ then some 0x120 else none := by
  unfold State.homeKey
  rw [holdsImage_home]
  by_cases hh : h = ⟨3, 5⟩
  · rw [if_pos hh, if_pos hh]
    rfl
  · rw [if_neg hh, if_neg hh]

theorem holdsImage_current (g : GroupId) : holdsImage.groups[g].current = none := by
  revert g
  decide +kernel

theorem holdsImage_captured (h : HomeId) : holdsImage.capturedKey h = if h = ⟨3, 5⟩ then some 0x120 else none := by
  obtain ⟨g, h⟩ := h
  revert g h
  decide +kernel

theorem holdsImage_images : ImagesSound holdsImage := by
  intro _
  refine ⟨?_, ?_, ?_, ?_, ?_, ?_⟩
  · intro h k hk
    unfold State.currentKey at hk
    rw [holdsImage_current] at hk
    exact absurd hk nofun
  · intro h k hk
    rw [holdsImage_key, ← holdsImage_captured, hk]
  · intro g a c hg
    have h : ∀ g : GroupId, holdsImage.groups[g].state.phase? ≠ some .committing := by decide +kernel
    exact absurd (congrArg GroupState.phase? hg) (h g)
  · exact fun g n hn => absurd hn (by simp [show holdsImage.waiting = [] from rfl])
  · exact fun g n _ hn => absurd hn (by simp [show holdsImage.waiting = [] from rfl])
  · intro g n pre post hp
    rw [show holdsImage.waiting = [] from rfl] at hp
    exact absurd hp.symm (by simp)

theorem holdsImage_apart : KeysApart holdsImage := by
  refine ⟨fun _ => ⟨?_, ?_, ?_⟩, fun h => absurd h (by decide)⟩
  · intro h h' k hk hk'
    rw [holdsImage_key] at hk hk'
    split at hk
    · split at hk'
      · simp_all
      · exact absurd hk' nofun
    · exact absurd hk nofun
  · intro h h' k hk
    unfold State.currentKey at hk
    rw [holdsImage_current] at hk
    exact absurd hk nofun
  · intro g
    have hb : holdsImage.banks[g] = ⟨[], []⟩ := by
      show (Vector.replicate 16 (⟨[], []⟩ : Banks))[g] = _
      simp
    have he : judgeBank g [] = .erased := by
      rw [judgeBank, if_pos (by decide +kernel)]
    unfold State.bank
    rw [holdsImage_current, hb]
    refine ⟨?_, nofun⟩
    show none = chooseCurrent (judgeBank g []) (judgeBank g []) _ _
    rw [he]
    rfl

theorem holdsImage_base : (HeldSound holdsImage ∧ IndexSound holdsImage ∧ HomesSound holdsImage)
    ∧ QueueSound holdsImage ∧ BanksSound holdsImage := by
  refine ⟨⟨running_held rfl, only_record_indexed holdsImage_slots rfl (by decide), ?_, ?_⟩,
    by unfold QueueSound; decide +kernel, erased_banks rfl (by decide +kernel)⟩
  · intro g h i hi
    rw [holdsImage_home] at hi
    split at hi
    · rename_i e
      obtain rfl := Option.some.inj hi
      rw [e]
      rfl
    · exact absurd hi nofun
  · intro j x hx h hh
    obtain ⟨rfl, rfl⟩ := only_slot holdsImage_slots hx
    obtain rfl := Option.some.inj hh
    exact holdsImage_home _

theorem witness_StepKeepsImagesSound : ∃ t, ((HeldSound holdsImage ∧ IndexSound holdsImage ∧ HomesSound holdsImage)
    ∧ (QueueSound holdsImage ∧ BanksSound holdsImage) ∧ ImagesSound holdsImage) ∧ step holdsImage = .next t :=
  ⟨_, ⟨holdsImage_base.1, holdsImage_base.2, holdsImage_images⟩, rfl⟩

theorem witness_StepKeepsKeysApart : ∃ t, ((HeldSound holdsImage ∧ IndexSound holdsImage ∧ HomesSound holdsImage)
    ∧ (QueueSound holdsImage ∧ BanksSound holdsImage) ∧ ImagesSound holdsImage ∧ KeysApart holdsImage)
    ∧ step holdsImage = .next t :=
  ⟨_, ⟨holdsImage_base.1, holdsImage_base.2, holdsImage_images, holdsImage_apart⟩, rfl⟩

/-! ### Device, pins and timer -/

/-- Group 3's rewrite in a phase, active or suspended. -/
def inPhase (ph : RewritePhase) : State :=
  if ph = .suspended then { later ph with active := none, suspended := some 3 } else later ph

theorem witness_ResetAndLossOfPowerClear :
    ((Instr.deviceReset = .deviceReset ∧ RunState.reset = .reset) ∧ Instr.lossOfPower = .lossOfPower)
      ∧ (BankId.a ≠ spareOf (later .captured).groups[(3 : GroupId)].current)
      ∧ (later .captured).active = some 3
      ∧ (later .captured).groups[(3 : GroupId)].state.phase? = some .captured
      ∧ (inPhase .suspended).suspended = some 3
      ∧ (inPhase .suspended).groups[(3 : GroupId)].state.phase? = some .suspended
      ∧ (later .committing).groups[(3 : GroupId)].state.phase? = some .committing := by decide +kernel

theorem witness_RestoreSetsStrapsAndGroups : State.reset.phase = .reset := rfl

/-- The home image of 1.8's record as a capture holds it. -/
def image (k : Key) : CapturedHome := .occupied ⟨k, 7, 0, 50, .isOpen, 41⟩

/-- A capture with that image in homes 0 and 1, and no other record. -/
def storedCapture : Vector CapturedHome 16 :=
  ((Vector.replicate 16 CapturedHome.free).set 0 (image 0x310)).set 1 (image 0x310)

/-- The bank that a rewrite under wear count 57 leaves of it. -/
def storedBank : Memory := (Memory.writeBytes [] 0 (imageBytes 0 57 storedCapture)).writeBytes 297 commitMark

/-- A part held in reset with one bank that is not erased. -/
def holding (m : Memory) : State := { State.reset with banks := State.reset.banks.set 0 ⟨m, []⟩ }

theorem holding_bank (m : Memory) : (holding m).bank 0 .a = m := rfl

theorem holding_other (m : Memory) : (holding m).bank 0 .b = [] := rfl

theorem holding_banks (m : Memory) (a b c d : Privilege) :
    ((holding m).beginRestore.sampleStraps a b c d).banks[(0 : GroupId)] = ⟨m, []⟩ := rfl

theorem holding_lookup (m : Memory) (a b c d : Privilege) (x : Group) (k : Key) :
    (((holding m).beginRestore.sampleStraps a b c d).setGroup 0 x).lookup k = none := rfl

theorem holding_freeSlot (m : Memory) (a b c d : Privilege) (x : Group) :
    (((holding m).beginRestore.sampleStraps a b c d).setGroup 0 x).freeSlot = some 0 := by
  have h : (holding m).slots = Vector.replicate 512 none := rfl
  have hl : List.finRange 512 = 0 :: (List.finRange 512).tail := by decide +kernel
  rw [State.freeSlot, hl, List.find?_cons_of_pos]
  simp [h]

/-- A part held in reset with that bank. -/
abbrev stored : State := holding storedBank

/-- The record of the image of home 0.0. -/
def restored : Record := durable { counter 0x310 with ceiling := 50, value := 7, generation := 41 } ⟨0, 0⟩

theorem storedImage_length : (imageBytes 0 57 storedCapture).length = 297 := by decide +kernel

theorem storedBank_image : storedBank.readBytes 0 297 = imageBytes 0 57 storedCapture := by
  have h : storedBank.readBytes 0 297 = (Memory.writeBytes [] 0 (imageBytes 0 57 storedCapture)).readBytes 0 297 :=
    Memory.readBytes_congr fun k hk => Memory.read_writeBytes_below _ _ (by omega)
  rw [h]
  have h2 := Memory.readBytes_writeBytes (m := []) rfl (imageBytes 0 57 storedCapture) 0
  rwa [storedImage_length] at h2

theorem storedBank_mark : storedBank.readBytes 297 4 = commitMark :=
  Memory.readBytes_writeBytes (Memory.wf_writeBytes rfl 0 _) commitMark 297

theorem storedBank_read {k : Nat} (hk : k < 297) : storedBank.read k = (imageBytes 0 57 storedCapture).getD k 0 := by
  rw [← storedBank_image]
  simp [Memory.readBytes, hk]

/-- A bank that has its commit mark is not erased. -/
theorem marked_not_erased {m : Memory} (h : m.readBytes 297 4 = commitMark) : bankErased m = false := by
  have hm : m.read 297 = 0x3C := by
    have h := congrArg (fun l : List Byte => l.getD 0 0) h
    simpa [Memory.readBytes, commitMark] using h
  rw [Bool.eq_false_iff]
  intro h
  have h2 := List.all_eq_true.1 h (m.read 297) (List.mem_map.2 ⟨297, by simp [Config.bankBytes], by simp⟩)
  rw [hm] at h2
  exact absurd h2 (by decide)

theorem storedBank_body : storedBank.readBytes 0 293 = imageBody 0 57 storedCapture := by
  rw [← Memory.take_readBytes storedBank 0 (n := 297) (by decide), storedBank_image]
  exact List.take_left' (by decide +kernel)

theorem storedBank_check : storedBank.readBytes 293 4 = bytes32 (crc32 (imageBody 0 57 storedCapture)) := by
  have h := Memory.drop_readBytes storedBank 0 293 4
  rw [Nat.zero_add] at h
  rw [← h, storedBank_image]
  exact List.drop_left' (by decide +kernel)

theorem storedBank_group : storedBank.read 0 = byteOf (0 : GroupId).val := by
  rw [storedBank_read (by decide)]
  decide +kernel

theorem storedBank_valid : judgeBank 0 storedBank = .valid := by
  have hv : bankValid 0 storedBank = true := by
    simp only [bankValid, storedBank_mark, storedBank_body, storedBank_check, storedBank_group, decide_true,
      Bool.and_self]
  rw [judgeBank, marked_not_erased storedBank_mark, hv]
  rfl

theorem stored_current : chooseCurrent (judgeBank 0 storedBank) (judgeBank 0 []) (bankWear storedBank) (bankWear [])
    = some .a := by
  have h : judgeBank 0 [] = .erased := by decide +kernel
  rw [storedBank_valid, h]
  rfl

/-- What a home image reads as in any bank with those bytes. -/
theorem stored_reads {m : Memory} (hm : ∀ k < 297, m.read k = (imageBytes 0 57 storedCapture).getD k 0) (h : Fin 16)
    (hh : h = 0 ∨ h = 1) : imageKey m h = 0x310
      ∧ imageRecord m 0 h = some { restored with home := some ⟨0, h⟩ } ∧ imageOccupied m h = true := by
  rcases hh with rfl | rfl <;>
  · simp (disch := decide) only [imageKey, imageRecord, imageOccupied, Memory.half, Memory.word, hm]
    decide +kernel

theorem stored_record (h : Fin 16) (hh : h = 0 ∨ h = 1) : imageKey storedBank h = 0x310
    ∧ imageRecord storedBank 0 h = some { restored with home := some ⟨0, h⟩ } ∧ imageOccupied storedBank h = true :=
  stored_reads (fun _ hk => storedBank_read hk) h hh

/-- The home images that restore finds in a group whose bank A alone is VALID. -/
theorem storedImage_of {s : State} {m : Memory} (ha : s.bank 0 .a = m) (hb : s.bank 0 .b = [])
    (hc : chooseCurrent (judgeBank 0 m) (judgeBank 0 []) (bankWear m) (bankWear []) = some .a) (h : Fin 16) :
    s.storedImage ⟨0, h⟩
      = if m.read (5 + 18 * h.val) = 0 then none else some (imageKey m h, imageRecord m 0 h) := by
  unfold State.storedImage
  dsimp only
  rw [ha, hb, hc]
  dsimp only
  rw [ha]

theorem stored_image (h : Fin 16) (hh : h = 0 ∨ h = 1) :
    stored.storedImage ⟨0, h⟩ = some (0x310, some { restored with home := some ⟨0, h⟩ }) := by
  have hr := stored_record h hh
  have ho : storedBank.read (5 + 18 * h.val) ≠ 0 := of_decide_eq_true hr.2.2
  rw [storedImage_of (holding_bank storedBank) (holding_other storedBank) stored_current, if_neg ho, hr.1, hr.2.1]

theorem stored_loads : stored.loads ⟨0, 0⟩ restored := by
  refine ⟨stored_image 0 (.inl rfl), ?_⟩
  intro h' hb
  rcases hb with hb | hb
  · exact absurd hb (Fin.not_lt_zero _)
  · exact absurd hb.2 (Fin.not_lt_zero _)

/-- The second image of the same key is not loaded. -/
theorem stored_second (r : Record) : ¬ stored.loads ⟨0, 1⟩ r := by
  intro hr
  have h1 := hr.1
  rw [stored_image 1 (.inr rfl)] at h1
  have hk : (0x310 : Key) = r.key := congrArg Prod.fst (Option.some.inj h1)
  exact hr.2 ⟨0, 0⟩ (.inr ⟨rfl, by decide⟩) restored (by rw [stored_image 0 (.inl rfl), ← hk]; rfl)

/-- Home 0.2 has no image. -/
theorem stored_third : stored.storedImage ⟨0, 2⟩ = none := by
  rw [storedImage_of (holding_bank storedBank) (holding_other storedBank) stored_current]
  refine if_pos ?_
  rw [storedBank_read (by decide)]
  decide +kernel

theorem stored_held : HeldSound stored := by
  intro _
  refine ⟨?_, rfl, ?_, rfl, rfl, rfl, rfl, rfl, rfl, rfl⟩
  · intro i
    show (Vector.replicate 512 (none : Option Record))[i] = none
    simp
  · intro g h
    show (Vector.replicate 16 (Vector.replicate 16 Home.free))[g][h] = .free
    simp

/-- A home image takes no slot that a record is in. -/
theorem restoreHome_keeps {s : State} {i : Slot} {r : Record} (h : s.slots[i] = some r) (m : Memory) (g : GroupId)
    (k : Fin 16) : (s.restoreHome m g k).slots[i] = some r := by
  unfold State.restoreHome
  split
  · split
    · rename_i r' j _ _ hj
      have hn : s.slots[j] = none := State.freeSlot_some hj
      have hij : j ≠ i := by
        rintro rfl
        rw [h] at hn
        exact absurd hn nofun
      unfold State.install
      dsimp only
      split <;> simpa [Vector.getElem_set, Fin.val_ne_of_ne hij] using h
    · exact h
  · exact h

theorem restoreHomes_keeps {s : State} {i : Slot} {r : Record} (h : s.slots[i] = some r) (m : Memory) (g : GroupId)
    (ks : List (Fin 16)) : (s.restoreHomes m g ks).slots[i] = some r := by
  induction ks generalizing s with
  | nil => exact h
  | cons k rest ih => exact ih (restoreHome_keeps h m g k)

theorem restoreGroups_keeps {s : State} {i : Slot} {r : Record} (h : s.slots[i] = some r) (gs : List GroupId) :
    (s.restoreGroups gs).slots[i] = some r := by
  induction gs generalizing s with
  | nil => exact h
  | cons g rest ih =>
    refine ih ?_
    unfold State.restoreGroup
    dsimp only
    split
    · exact h
    · exact restoreHomes_keeps (s := s.setGroup g (restoredGroup g s.banks[g])) h _ _ _

/-- The first home of group 0 is restored to the lowest slot. -/
theorem first_restored {s : State} {m : Memory} {r : Record} (hs : s.banks[(0 : GroupId)] = ⟨m, []⟩)
    (hc : chooseCurrent (judgeBank 0 m) (judgeBank 0 []) (bankWear m) (bankWear []) = some .a)
    (ho : imageOccupied m 0 = true) (hr : imageRecord m 0 0 = some r) (hl : ∀ x, (s.setGroup 0 x).lookup (imageKey m 0) = none)
    (hf : ∀ x, (s.setGroup 0 x).freeSlot = some 0) : (s.restoreGroup 0).slots[(0 : Slot)] = some r := by
  have hcur : (restoredGroup 0 s.banks[(0 : GroupId)]).current = some .a := by rw [hs]; exact hc
  have hbank : s.bank 0 .a = m := by unfold State.bank; rw [hs]; rfl
  have hl16 : List.finRange 16 = 0 :: (List.finRange 16).tail := rfl
  unfold State.restoreGroup
  dsimp only
  rw [hcur]
  dsimp only
  rw [hbank, hl16, State.restoreHomes]
  refine restoreHomes_keeps ?_ _ _ _
  unfold State.restoreHome
  rw [if_pos ho, hr, hl, hf]
  dsimp only
  unfold State.install
  dsimp only
  split <;> simp

theorem restore_answers (m : Memory) : exec (.restore .operator .operator .operator .supervisor) (holding m)
    = .next (((holding m).beginRestore.sampleStraps .operator .operator .operator .supervisor).restoreGroups
      (List.finRange 16)) := rfl

theorem stored_restores : ((stored.beginRestore.sampleStraps .operator .operator .operator .supervisor).restoreGroups
    (List.finRange 16)).slots[(0 : Slot)] = some restored := by
  have hr := stored_record 0 (.inl rfl)
  have hl : List.finRange 16 = 0 :: (List.finRange 16).tail := rfl
  rw [hl, State.restoreGroups]
  exact restoreGroups_keeps (first_restored (holding_banks storedBank .operator .operator .operator .supervisor)
    stored_current hr.2.2 hr.2.1 (fun _ => holding_lookup ..) (fun _ => holding_freeSlot ..)) _

theorem witness_RestoreLoadsTheImages :
    (stored.phase = .reset ∧ HeldSound stored
      ∧ ∃ t, exec (.restore .operator .operator .operator .supervisor) stored = .next t
        ∧ t.slots[(0 : Slot)] = some restored)
      ∧ stored.loads ⟨0, 0⟩ restored
      ∧ (∃ x, stored.storedImage ⟨0, 1⟩ = some (0x310, x) ∧ ∀ r, ¬ stored.loads ⟨0, 1⟩ r)
      ∧ stored.storedImage ⟨0, 2⟩ = none :=
  ⟨⟨rfl, stored_held, _, restore_answers storedBank, stored_restores⟩,
    stored_loads, ⟨_, stored_image 1 (.inr rfl), stored_second⟩, stored_third⟩

theorem witness_RestoreEndTellsTheLosses : ({ ready with phase := .restoring } : State).phase = .restoring := rfl

theorem witness_PrstEmptiesThePort :
    filling.ports[(0 : PortId)].prst = false ∧ (after (.prstAsserted 0) filling).ports[(0 : PortId)].prst = true := by
  decide +kernel

/-- The same with the capture of group 3 still to come. -/
def uncaptured : State :=
  busy.setGroup 3 { busy.groups[3] with state := .rewriting .captured .first, capture := none }

theorem uncaptured_queue : QueueSound uncaptured := by unfold QueueSound; decide +kernel

theorem witness_PfwAbandonsAndWarns :
    (busy.phase = .running ∧ busy.pfw = false ∧ QueueSound busy ∧ Abandoned busy 3
        ∧ busy.groups[(3 : GroupId)].state.phase? ≠ some .captured)
      ∧ (QueueSound uncaptured ∧ uncaptured.groups[(3 : GroupId)].state.phase? = some .captured)
      ∧ ({ ready with pfw := true } : State).pfw = true
      ∧ (State.reset.pfw = false ∧ State.reset.phase = .reset)
      ∧ (({ ready with phase := .restoring } : State).pfw = false
        ∧ ({ ready with phase := .restoring } : State).phase = .restoring) :=
  ⟨⟨rfl, rfl, busy_queue, by decide +kernel⟩, ⟨uncaptured_queue, by decide +kernel⟩, rfl, ⟨rfl, rfl⟩, ⟨rfl, rfl⟩⟩

theorem witness_TickAndFallingDue :
    ready.phase = .running ∧ State.reset.phase = .reset
      ∧ ({ ready with deadlines := [⟨.lease, 0x388, 2, 0, 41⟩] } : State).deadlines = ⟨.lease, 0x388, 2, 0, 41⟩ :: []
      ∧ ready.deadlines = [] := ⟨rfl, rfl, rfl, rfl⟩

/-- Deadlines that wrap past the end of device time. -/
def timed : State := { ready with
  time := 0xFFFFFFF0, serial := 2
  deadlines := [⟨.lease, 0x388, 2, 0xFFFFFFF8, 1⟩, ⟨.wait, 0x388, 1, 4, 2⟩] }

/-- The same within an item whose reading of device time lies 16 ticks back. -/
def timedItem : State := { timed with item := some ⟨.event (.eviction 1), 0xFFFFFFE0⟩ }

/-- The same 8 ticks on, where the head of the list is due. -/
def timedDue : State := { timedItem with time := 0xFFFFFFF8 }

theorem witness_DeadlineJoinsByDueTick :
    (SerialsLeft timed ∧ timed.deadlines.Pairwise (fun d e => d.due - timed.time ≤ e.due - timed.time)
        ∧ timed.item = none ∧ (timed.time - timed.reading).toNat < (1 : Ticks).toNat)
      ∧ (SerialsLeft timedItem
        ∧ timedItem.deadlines.Pairwise (fun d e => d.due - timedItem.time ≤ e.due - timedItem.time)
        ∧ (16 : Ticks).toNat ≤ (timedItem.time - timedItem.reading).toNat
        ∧ (timedItem.time - timedItem.reading).toNat < (17 : Ticks).toNat)
      ∧ (SerialsLeft timedDue ∧ timedDue.deadlines.Pairwise (fun d e => d.due - timedDue.time ≤ e.due - timedDue.time)
        ∧ (24 : Ticks).toNat ≤ (timedDue.time - timedDue.reading).toNat
        ∧ timedDue.dueDeadlines.map Deadline.serial = [1]) := by
  decide +kernel

/-! ### Transactions and notices -/

theorem witness_TransactionsShowThePort :
    (Linked ready 0 ∧ ready.ports[(0 : PortId)].transaction = .none)
      ∧ (Linked filling 0 ∧ filling.ports[(0 : PortId)].transaction = .begun)
      ∧ (0xA0 : Byte) ∉ ([0xA1, 0xA2, 0xA3, 0xA4] : List Byte) := by decide +kernel

theorem witness_SubmitJudgesTheFrame :
    Linked filling 0 ∧ filling.ports[(0 : PortId)].transaction = .begun := by decide +kernel

/-- A request of the longest frame, 32 bytes. -/
def longest : RequestFrame := ask 0x77 0xFFFF (List.replicate 25 0xAB)

theorem witness_SubmittedFrameIsTheRequest :
    longest.operands.length ≤ 25 ∧ Linked (talking ready .begun) 0 ∧ (talking ready .begun).phase = .running
      ∧ (talking ready .begun).ports[(0 : PortId)].transaction = .begun
      ∧ longest.tag ∉ (talking ready .begun).ports[(0 : PortId)].tags
      ∧ (talking ready .begun).ports[(0 : PortId)].requests.length < 4 := by decide +kernel

/-- P0 in the middle of a FETCH. -/
def fetching : State := after (.fetch 0) filling

/-- The reply it sends. -/
def sent : Reply := ⟨1, 0x11, .noKey, ⟨false, false, false, false⟩, none, .absent⟩

theorem witness_FetchSendsTheOldestReply :
    (Linked filling 0 ∧ filling.ports[(0 : PortId)].transaction = .begun)
      ∧ (talking ready (.fetch none)).ports[(0 : PortId)].transaction = .fetch none
      ∧ fetching.ports[(0 : PortId)].transaction = .fetch (some sent) ∧ 8 < sent.frame.length ∧ sent.frame.length ≤ 9 := by
  decide +kernel

/-- P0 at the start of a transaction with a notice, or in the middle of a FETCH-NOTICE. -/
def noticed (x : Transaction) (held : Option HeldNotice) : State :=
  talking (ready.modifyPort 0 fun q => { q with notices := [holder250], held := held }) x

theorem witness_FetchNoticeTakesAndSettles :
    (Linked (noticed .begun none) 0 ∧ (noticed .begun none).ports[(0 : PortId)].transaction = .begun
        ∧ (noticed .begun none).ports[(0 : PortId)].notices = holder250 :: [])
      ∧ (Linked (talking ready .begun) 0 ∧ (talking ready .begun).ports[(0 : PortId)].transaction = .begun
        ∧ (talking ready .begun).ports[(0 : PortId)].notices = [])
      ∧ ((noticed .notice (some ⟨value120 0 32, false⟩)).ports[(0 : PortId)].transaction = .notice
        ∧ (noticed .notice (some ⟨value120 0 32, false⟩)).ports[(0 : PortId)].held = some ⟨value120 0 32, false⟩)
      ∧ (talking ready .marker).ports[(0 : PortId)].transaction = .marker := by decide +kernel

theorem witness_NoticeMergesJoinsOrIsLost :
    ((noticed .begun none).ports[(0 : PortId)].notices = [] ++ holder250 :: [] ∧ holder250.sameKey holder250 = true
        ∧ ∀ x ∈ ([] ++ [] : List Notice), x.sameKey holder250 = false)
      ∧ ∀ x ∈ (noticed .begun none).ports[(0 : PortId)].notices, x.sameKey (value120 0 32) = false := by
  decide +kernel

/-! ### Records -/

/-- A request on the record in slot 0 that the Table Engine takes. -/
abbrev Served (r : Record) (p : PortId) (code : Byte) (ops : List Byte) : Prop :=
  Taken (demo r p code ops) p (ask code r.key ops) code ∧ Finds (demo r p code ops) (ask code r.key ops).key 0 r

/-- A CREATE of key 0310h with a durable byte and a guard byte. -/
def creates (d g : Byte) : RequestFrame := ask 0x10 0x310 ([d, g] ++ bytes32 0 ++ bytes32 100 ++ bytes32 0)

/-- P3's CREATE, with home 0.0 VACATED under its key. -/
def creating (d : Byte) : State := asks (ready.setHome ⟨0, 0⟩ (.vacated 0x310)) 3 (creates d 2)

theorem witness_CreateMakesTheRecord :
    (∀ d ∈ [(0 : Byte), 1], Taken (creating d) 3 (creates d 2) 0x10 ∧ (creates d 2).key ≠ 0x0000
        ∧ (creates d 2).key ≠ 0xFFFF ∧ (creating d).lookup (creates d 2).key = none
        ∧ (creates d 2).byteAt 1 = Guard.supervisor.byte ∧ (creating d).ports[(3 : PortId)].privilege = .supervisor
        ∧ ((creates d 2).word 2).toInt ≤ ((creates d 2).word 10).toInt
        ∧ ((creates d 2).word 10).toInt ≤ ((creates d 2).word 6).toInt ∧ (creates d 2).byteAt 0 = d)
      ∧ (∀ d, LowestFree (creating d) 0) ∧ Chosen (creating 1) (creates 1 2).key ⟨0, 0⟩ := by
  refine ⟨by decide +kernel, fun d => ⟨rfl, fun j hj => absurd hj (Fin.not_lt_zero _)⟩, .inl ⟨by decide +kernel, ?_⟩⟩
  intro h' hb
  rcases hb with hb | hb
  · exact absurd hb (Fin.not_lt_zero _)
  · exact absurd hb.2 (Fin.not_lt_zero _)

/-- A table with every slot taken. -/
def full : State := { asks ready 0 (creates 1 0) with slots := Vector.replicate 512 (some (counter 0x120)) }

/-- A store with no home to take. -/
def noHome : State :=
  { asks ready 0 (creates 1 0) with homeMap := Vector.replicate 16 (Vector.replicate 16 (.vacated 0x120)) }

theorem witness_CreateRefusesInOrder :
    (Taken (asks ready 0 (creates 1 2)) 0 (creates 1 2) 0x10 ∧ (creates 1 2).byteAt 1 = 2
        ∧ (asks ready 0 (creates 1 2)).ports[(0 : PortId)].privilege = .operator)
      ∧ Taken (asks ready 0 { creates 1 0 with key := 0xFFFF }) 0 { creates 1 0 with key := 0xFFFF } 0x10
      ∧ (Taken (asks (hasRecord ready 0 (counter 0x310)) 0 (creates 1 0)) 0 (creates 1 0) 0x10
        ∧ (asks (hasRecord ready 0 (counter 0x310)) 0 (creates 1 0)).lookup 0x310 = some (0, counter 0x310))
      ∧ (Taken (asks ready 0 (creates 2 0)) 0 (creates 2 0) 0x10 ∧ (asks ready 0 (creates 2 0)).lookup 0x310 = none
        ∧ (creates 2 0).byteAt 0 = 2)
      ∧ (Taken full 0 (creates 1 0) 0x10 ∧ full.lookup 0x310 = none ∧ ∀ i : Slot, full.slots[i] ≠ none)
      ∧ (Taken noHome 0 (creates 1 0) 0x10 ∧ noHome.lookup 0x310 = none ∧ noHome.slots[(0 : Slot)] = none
        ∧ ∀ h : HomeId, noHome.home h ≠ .vacated 0x310 ∧ ¬ Takeable noHome h) := by
  refine ⟨by decide +kernel, by decide +kernel, by decide +kernel, by decide +kernel,
    ⟨by decide +kernel, by decide +kernel, ?_⟩, ⟨by decide +kernel, by decide +kernel, by decide +kernel, ?_⟩⟩
  · intro i
    show (Vector.replicate 512 (some (counter 0x120)))[i] ≠ none
    simp
  · intro h
    have hh : noHome.home h = .vacated 0x120 := by
      show (Vector.replicate 16 (Vector.replicate 16 (Home.vacated 0x120)))[h.group][h.home] = .vacated 0x120
      simp
    rw [Takeable, hh]
    exact ⟨by decide, fun x => absurd x.1 (by decide)⟩

/-- One record and a request about a key. -/
def lookups (code : Byte) (k : Key) : State := asks (hasRecord ready 0 (counter 0x120)) 0 (ask code k [])

theorem lookups_slots (code : Byte) (k : Key) :
    (lookups code k).slots = (Vector.replicate 512 none).set 0 (some (counter 0x120)) := rfl

theorem lookups_sound (code : Byte) (k : Key) : IndexSound (lookups code k) :=
  only_record_indexed (lookups_slots code k) rfl (by decide)

theorem witness_FindAndNextReport :
    (∀ code k, IndexSound (lookups code k))
      ∧ Taken (lookups 0x11 0x0000) 0 (ask 0x11 0x0000 []) 0x11
      ∧ (Taken (lookups 0x11 0x121) 0 (ask 0x11 0x121 []) 0x11
        ∧ ∀ i : Slot, ∀ r ∈ (lookups 0x11 0x121).slots[i], r.key ≠ 0x121)
      ∧ (Taken (lookups 0x11 0x120) 0 (ask 0x11 0x120 []) 0x11
        ∧ (lookups 0x11 0x120).slots[(0 : Slot)] = some (counter 0x120))
      ∧ Taken (lookups 0x12 0xFFFF) 0 (ask 0x12 0xFFFF []) 0x12
      ∧ (Taken (lookups 0x12 0x120) 0 (ask 0x12 0x120 []) 0x12
        ∧ ∀ i : Slot, ∀ r ∈ (lookups 0x12 0x120).slots[i], r.key ≤ 0x120)
      ∧ (Taken (lookups 0x12 0x0000) 0 (ask 0x12 0x0000 []) 0x12 ∧ (0x0000 : Key) < (counter 0x120).key
        ∧ ∀ j : Slot, ∀ r' ∈ (lookups 0x12 0x0000).slots[j], (counter 0x120).key ≤ r'.key) := by
  refine ⟨lookups_sound, by decide +kernel, ⟨by decide +kernel, ?_⟩, by decide +kernel, by decide +kernel,
    ⟨by decide +kernel, ?_⟩, ⟨by decide +kernel, by decide, ?_⟩⟩
  all_goals
    intro i r hr
    rw [(only_slot (lookups_slots _ _) hr).2]
    decide

/-- A record that P1 holds and P2 waits for. -/
def contested : Record :=
  { heldBy (counter 0x250) 1 1 with lease := some 1, waiters := [⟨2, 9, 0x250, 65535, .limited 1 2⟩] }

/-- That record with its lease and P2's wait in the deadline list, P2's claim parked, and P1's
RELEASE of it in progress. -/
def waiting : State :=
  { hasRecord ready 0 contested with
    serial := 2, time := 0xFFFFFFF0, pending := [.release 1], pointer := 1
    item := some ⟨.request 1 (ask 0x31 0x250 [0]), 0xFFFFFFF0⟩
    deadlines := [⟨.lease, 0x250, 1, 0xFFFFFFF8, 1⟩, ⟨.wait, 0x250, 2, 60000, 2⟩]
    ports := (ready.ports.set 1 { ready.ports[1] with reserved := [4], tags := [4] }).set 2
      { ready.ports[2] with parked := 1, reserved := [9], tags := [9] } }

theorem waiting_slots : waiting.slots = (Vector.replicate 512 none).set 0 (some contested) := rfl

theorem waiting_homes (h : HomeId) : waiting.home h = .free := by
  show (Vector.replicate 16 (Vector.replicate 16 Home.free))[h.group][h.home] = .free
  simp

theorem waiting_sound : (HeldSound waiting ∧ IndexSound waiting ∧ HomesSound waiting) ∧ RecordsSound waiting := by
  refine ⟨⟨running_held rfl, only_record_indexed waiting_slots rfl (by decide), ?_, ?_⟩,
    only_record_sound waiting_slots (by decide +kernel)⟩
  · intro g h i hi
    rw [waiting_homes] at hi
    exact absurd hi nofun
  · intro i r hr h hh
    obtain ⟨rfl, rfl⟩ := only_slot waiting_slots hr
    exact absurd hh nofun

/-- The lease of that record, running and at its due tick, for the last clauses of FIND and NEXT. -/
theorem witness_FindAndNextReport_lease :
    (IndexSound waiting ∧ contested.lease = some 1 ∧ (waiting.deadlines.map Deadline.serial).Nodup
        ∧ ⟨.lease, 0x250, 1, 0xFFFFFFF8, 1⟩ ∈ waiting.deadlines
        ∧ ((0xFFFFFFF8 : Word) - waiting.reading).toNat = 8)
      ∧ (IndexSound { waiting with time := 0xFFFFFFF8, item := none }
        ∧ (({ waiting with time := 0xFFFFFFF8, item := none } : State).reading - (0xFFFFFFF8 : Word)).toNat = 0)
      ∧ (IndexSound { waiting with deadlines := [] }
        ∧ ∀ d ∈ ({ waiting with deadlines := [] } : State).deadlines, d.serial ≠ 1) :=
  ⟨⟨waiting_sound.1.2.1, by decide +kernel⟩, ⟨waiting_sound.1.2.1, by decide +kernel⟩, waiting_sound.1.2.1, nofun⟩

theorem waiting_deadlines : DeadlinesSound waiting := by
  refine ⟨by decide +kernel, by decide +kernel, by decide +kernel, ?_, ?_, ?_, fun _ => ?_⟩
  · intro d hd
    refine ⟨0, contested, rfl, ?_⟩
    revert d
    decide +kernel
  · intro i r hr
    obtain ⟨rfl, rfl⟩ := only_slot waiting_slots hr
    refine ⟨?_, ?_⟩
    · intro n hn
      obtain rfl := Option.some.inj hn
      exact ⟨1, rfl, by decide +kernel⟩
    · intro w hw n hn
      obtain rfl := List.mem_singleton.1 hw
      obtain rfl := Option.some.inj hn
      decide +kernel
  · rw [only_record_parks waiting_slots]
    decide +kernel
  · rw [only_record_parks waiting_slots]
    decide +kernel

theorem waiting_parked : ParkedSound waiting := by
  intro p
  rw [only_record_tags waiting_slots p]
  revert p
  decide +kernel

theorem witness_StepKeepsDeadlinesSound :
    ∃ t, ((HeldSound waiting ∧ IndexSound waiting ∧ HomesSound waiting) ∧ RecordsSound waiting ∧ DeadlinesSound waiting)
      ∧ step waiting = .next t :=
  ⟨_, ⟨waiting_sound.1, waiting_sound.2, waiting_deadlines⟩, rfl⟩

theorem witness_StepKeepsParkedSound :
    ∃ t, ((HeldSound waiting ∧ IndexSound waiting ∧ HomesSound waiting) ∧ RecordsSound waiting ∧ PortsSound waiting
      ∧ ParkedSound waiting) ∧ step waiting = .next t :=
  ⟨_, ⟨waiting_sound.1, waiting_sound.2, by unfold PortsSound PortSound EngineSound; decide +kernel,
    waiting_parked⟩, rfl⟩

theorem witness_RetireRemovesTheRecord :
    (Served contested 1 0x13 [] ∧ contested.state = .live ∧ Permitted (demo contested 1 0x13 []) 1 contested
        ∧ RecordSound contested ∧ contested.holder = some 1)
      ∧ (Served (counter 0x250) 0 0x13 [] ∧ RecordSound (counter 0x250) ∧ (counter 0x250).holder = none) := by
  refine ⟨?_, ?_⟩ <;> decide +kernel

theorem witness_RetireDefersToTheHolder :
    Served contested 2 0x13 [] ∧ contested.state = .live ∧ Permitted (demo contested 2 0x13 []) 2 contested
      ∧ RecordSound contested ∧ contested.holder = some 1 ∧ (1 : PortId) ≠ 2 := by decide +kernel

theorem witness_SetGuardFollowsItsPermissions :
    (Taken (demo (counter 0x120) 0 0x14 [2]) 0 (ask 0x14 0x120 [2]) 0x14 ∧ (ask 0x14 0x120 [2]).byteAt 0 = 2
        ∧ (demo (counter 0x120) 0 0x14 [2]).ports[(0 : PortId)].privilege = .operator)
      ∧ Taken (asks ready 0 (ask 0x14 0 [1])) 0 (ask 0x14 0 [1]) 0x14
      ∧ (Taken (asks ready 0 (ask 0x14 0xFFFE [1])) 0 (ask 0x14 0xFFFE [1]) 0x14
        ∧ (asks ready 0 (ask 0x14 0xFFFE [1])).lookup 0xFFFE = none)
      ∧ Served { contested with state := .retiring } 0 0x14 [1]
      ∧ Served { counter 0x120 with guard := .fixed } 0 0x14 [1]
      ∧ (Served { counter 0x120 with guard := .holder } 0 0x14 [1] ∧ (counter 0x120).holder ≠ some 0)
      ∧ (Served (counter 0x120) 0 0x14 [4] ∧ 3 < ((ask 0x14 0x120 [4]).byteAt 0).toNat)
      ∧ (Served (counter 0x120) 0 0x14 [1] ∧ (ask 0x14 0x120 [1]).byteAt 0 = Guard.holder.byte)
      ∧ (Served { counter 0x120 with guard := .fixed } 3 0x14 [3] ∧ (ask 0x14 0x120 [3]).byteAt 0 = Guard.fixed.byte
        ∧ (demo { counter 0x120 with guard := .fixed } 3 0x14 [3]).ports[(3 : PortId)].privilege = .supervisor) := by
  refine ⟨?_, ?_, ?_, ?_, ?_, ?_, ?_, ?_, ?_⟩ <;> decide +kernel

theorem witness_BadRequestAnswersBadRequest :
    Serves (demo (counter 0x120) 0 0x77 []) (.request 0 (ask 0x77 0x120 []))
      ∧ operandLength (ask 0x77 0x120 []).code ≠ some (ask 0x77 0x120 []).operands.length := by decide +kernel

/-! ### Value updates -/

/-- A request that may update the record. -/
abbrev Updates (r : Record) (p : PortId) (code : Byte) (ops : List Byte) : Prop :=
  Served r p code ops ∧ r.state = .live ∧ Permitted (demo r p code ops) p r ∧ r.holds r.value.toInt

theorem witness_SetAndSetIfAssignWithinBounds :
    Updates (counter 0x120) 0 0x20 [0, 0, 0, 12] ∧ Updates (counter 0x120) 0 0x21 [0, 0, 0, 12, 0, 30] := by
  refine ⟨?_, ?_⟩ <;> decide +kernel

theorem witness_AddClipsTheExactSum :
    (Updates (counter 0x120) 0 0x22 [0, 0, 0, 11] ∧ (2 : Int) + 11 > (counter 0x120).ceiling.toInt)
      ∧ (Updates (counter 0x120) 0 0x22 [0xFF, 0xFF, 0xFF, 0xFD] ∧ (2 : Int) - 3 < (counter 0x120).floor.toInt)
      ∧ (Updates (counter 0x120) 0 0x22 [0, 0, 0, 10] ∧ (counter 0x120).holds (2 + 10))
      ∧ (Updates (counter 0x120) 0 0x22 [0, 0, 0, 0] ∧ (ask 0x22 0x120 [0, 0, 0, 0]).word 0 = 0) := by
  refine ⟨?_, ?_, ?_, ?_⟩ <;> decide +kernel

theorem witness_TakeAndGiveMoveAllOrNothing :
    ((Updates (counter 0x120) 0 0x23 [0x80, 0, 0, 0] ∧ 2147483647 < ((ask 0x23 0x120 [0x80, 0, 0, 0]).word 0).toNat)
      ∧ (Updates (counter 0x120) 0 0x23 [0x7F, 0xFF, 0xFF, 0xFF]
        ∧ ((ask 0x23 0x120 [0x7F, 0xFF, 0xFF, 0xFF]).word 0).toNat ≤ 2147483647)
      ∧ (Updates (counter 0x120) 0 0x23 [0, 0, 0, 2] ∧ (counter 0x120).floor.toInt ≤ (2 : Int) - 2))
      ∧ (Updates (counter 0x120) 0 0x24 [0x80, 0, 0, 0] ∧ 2147483647 < ((ask 0x24 0x120 [0x80, 0, 0, 0]).word 0).toNat)
      ∧ (Updates (counter 0x120) 0 0x24 [0, 0, 0, 11] ∧ (counter 0x120).ceiling.toInt < (2 : Int) + 11)
      ∧ (Updates (counter 0x120) 0 0x24 [0, 0, 0, 10] ∧ (2 : Int) + 10 ≤ (counter 0x120).ceiling.toInt) := by
  refine ⟨⟨?_, ?_, ?_⟩, ?_, ?_, ?_⟩ <;> decide +kernel

/-- The result of BITSET 4 and BITCLR 2 on the value 2, bit by bit. -/
theorem bits_of_two : (∀ k, (6#32).getLsbD k = ((2#32).getLsbD k || (4#32).getLsbD k))
    ∧ ∀ k, (0#32).getLsbD k = ((2#32).getLsbD k && !(2#32).getLsbD k) := by
  constructor
  · intro k
    rw [← BitVec.getLsbD_or]
    rfl
  · intro k
    simp

theorem witness_BitsetAndBitclrFollowTheMask :
    (counter 0x120).value = 2#32
      ∧ (Updates (counter 0x120) 0 0x25 [0, 0, 0, 4] ∧ (ask 0x25 0x120 [0, 0, 0, 4]).word 0 = 4#32
        ∧ (∀ k, (6#32).getLsbD k = ((2#32).getLsbD k || (4#32).getLsbD k))
        ∧ (false = true ↔ ∃ k, (2#32).getLsbD k = true ∧ (4#32).getLsbD k = true))
      ∧ (Updates (counter 0x120) 0 0x26 [0, 0, 0, 2] ∧ (ask 0x26 0x120 [0, 0, 0, 2]).word 0 = 2#32
        ∧ (∀ k, (0#32).getLsbD k = ((2#32).getLsbD k && !(2#32).getLsbD k))
        ∧ (true = true ↔ ∃ k, (2#32).getLsbD k = true ∧ (2#32).getLsbD k = true)) := by
  refine ⟨rfl, ⟨by decide +kernel, by decide, bits_of_two.1, nofun, ?_⟩,
    by decide +kernel, by decide, bits_of_two.2, fun _ => ⟨1, by decide, by decide⟩, fun _ => rfl⟩
  rintro ⟨k, h1, h2⟩
  have h : (2#32 &&& 4#32).getLsbD k = true := by rw [BitVec.getLsbD_and, h1, h2]; rfl
  exact absurd h (by simp)

theorem witness_KeyedRequestsRefuseInOrder :
    (((.sync 0, 0x50) : Instr × Byte) ∈ keyedRows 0
        ∧ Taken (asks ready 0 (ask 0x50 0 [])) 0 (ask 0x50 0 []) 0x50)
      ∧ (Taken (asks ready 0 (ask 0x50 0xFFFE [])) 0 (ask 0x50 0xFFFE []) 0x50
        ∧ (asks ready 0 (ask 0x50 0xFFFE [])).lookup 0xFFFE = none)
      ∧ (((.watch 1, 0x40) : Instr × Byte) ∈ liveRows 1 ∧ Served { contested with state := .retiring } 1 0x40 [7])
      ∧ (((.set 3, 0x20) : Instr × Byte) ∈ guardedRows 3 ∧ Served { contested with guard := .fixed } 3 0x20 [0, 0, 0, 0]
        ∧ ¬ Permitted (demo { contested with guard := .fixed } 3 0x20 [0, 0, 0, 0]) 3 { contested with guard := .fixed })
      ∧ (Served contested 0 0x30 [1, 0, 0, 0, 0] ∧ (ask 0x30 0x250 [1, 0, 0, 0, 0]).half 1 = 0)
      ∧ Served contested 0 0x30 [3, 0, 0, 0, 0] := by
  refine ⟨?_, ?_, ?_, ?_, ?_, ?_⟩ <;> decide +kernel

/-! ### Holds and deadlines -/

theorem witness_ClaimOfUnheldRecordIsGranted :
    Served (counter 0x250) 0 0x30 [1, 0, 1, 0xFF, 0xFF] ∧ (counter 0x250).state = .live ∧ RecordSound (counter 0x250)
      ∧ (counter 0x250).holder = none ∧ SerialsLeft (demo (counter 0x250) 0 0x30 [1, 0, 1, 0xFF, 0xFF])
      ∧ (ask 0x30 0x250 [1, 0, 1, 0xFF, 0xFF]).byteAt 0 = 1 ∧ (ask 0x30 0x250 [1, 0, 1, 0xFF, 0xFF]).half 1 ≠ 0 := by
  decide +kernel

theorem witness_ClaimByTheHolderRaisesTheCount :
    (Served (heldBy (counter 0x250) 0 15) 0 0x30 [0, 0, 0, 0, 0]
        ∧ SerialsLeft (demo (heldBy (counter 0x250) 0 15) 0 0x30 [0, 0, 0, 0, 0]))
      ∧ (Served (heldBy (counter 0x250) 0 14) 0 0x30 [2, 0, 0, 0, 0] ∧ (ask 0x30 0x250 [2, 0, 0, 0, 0]).half 3 = 0)
      ∧ (Served (heldBy (counter 0x250) 0 14) 0 0x30 [0, 0, 0, 0, 1] ∧ (ask 0x30 0x250 [0, 0, 0, 0, 1]).half 3 ≠ 0) := by
  decide +kernel

/-- P0's WAIT-UNLIMITED CLAIM of that record, two of its requests being parked. -/
def parkedOut : State := (demo contested 0 0x30 [2, 0, 0, 0, 0]).modifyPort 0 fun q => { q with parked := 2 }

theorem witness_ClaimOfHeldRecordWaitsOrIsRefused :
    (Served contested 0 0x30 [0, 0, 0, 0, 0] ∧ contested.state = .live ∧ contested.holder = some 1 ∧ (1 : PortId) ≠ 0)
      ∧ (Served contested 2 0x30 [2, 0, 0, 0, 0] ∧ ∃ w ∈ contested.waiters, w.port = 2)
      ∧ (Taken parkedOut 0 (ask 0x30 0x250 [2, 0, 0, 0, 0]) 0x30 ∧ Finds parkedOut 0x250 0 contested
        ∧ (∀ w ∈ contested.waiters, w.port ≠ 0) ∧ 2 ≤ parkedOut.ports[(0 : PortId)].parked)
      ∧ (Served contested 0 0x30 [1, 0, 1, 0, 0] ∧ (ask 0x30 0x250 [1, 0, 1, 0, 0]).half 1 ≠ 0
        ∧ (demo contested 0 0x30 [1, 0, 1, 0, 0]).ports[(0 : PortId)].parked < 2) := by
  refine ⟨?_, ?_, ?_, ?_⟩ <;> decide +kernel

theorem witness_ReleaseLowersOrHandsOn :
    Served (heldBy (counter 0x250) 0 2) 0 0x31 [2]
      ∧ (Served (heldBy (counter 0x250) 0 2) 1 0x31 [1] ∧ (heldBy (counter 0x250) 0 2).holder ≠ some 1)
      ∧ (Served (heldBy (counter 0x250) 0 2) 0 0x31 [0] ∧ 2 ≤ (heldBy (counter 0x250) 0 2).holdCount)
      ∧ (Served contested 1 0x31 [0] ∧ contested.holder = some 1 ∧ RecordSound contested
        ∧ SerialsLeft (demo contested 1 0x31 [0]) ∧ (ask 0x31 0x250 [0]).byteAt 0 = 0 ∧ contested.holdCount = 1) := by
  refine ⟨?_, ?_, ?_, ?_⟩ <;> decide +kernel

theorem witness_RenewReplacesTheLease :
    (Served contested 0 0x32 [0, 0] ∧ SerialsLeft (demo contested 0 0x32 [0, 0]) ∧ contested.holder ≠ some 0)
      ∧ (Served contested 1 0x32 [0xFF, 0xFF] ∧ contested.holder = some 1) := by decide +kernel

/-- The contested record with P2's claim and its reserved reply. -/
def cancels : State := (demo contested 2 0x33 []).modifyPort 2 fun q => { q with reserved := [9, 4], tags := [9, 4], parked := 1 }

/-- P2's claim. -/
def claim2 : ParkedClaim := ⟨2, 9, 0x250, 65535, .limited 1 2⟩

theorem witness_CancelWaitEndsTheClaim :
    (Served contested 0 0x33 [] ∧ ∀ w ∈ contested.waiters, w.port ≠ 0)
      ∧ (Taken cancels 2 (ask 0x33 0x250 []) 0x33 ∧ Finds cancels 0x250 0 contested ∧ claim2 ∈ contested.waiters
        ∧ claim2.port = 2 ∧ RecordSound contested
        ∧ contested.lease ≠ claim2.wait.serial?) := by
  refine ⟨?_, ?_⟩ <;> decide +kernel

/-- The lease of the contested record has fallen due. -/
def leaseDue : State := raised (hasRecord ready 0 contested) (.expiry .lease 0x250 1 1)

/-- The wait of P2's claim has fallen due. -/
def waitDue : State := raised (hasRecord ready 0 contested) (.expiry .wait 0x250 2 2)

theorem witness_LeaseExpiryEndsTheHold :
    (Serves silent (.event (.expiry .lease 0x388 2 41))
        ∧ Serves (raised ready (.expiry .lease 0x250 1 1)) (.event (.expiry .lease 0x250 1 1))
        ∧ (raised ready (.expiry .lease 0x250 1 1)).lookup 0x250 = none)
      ∧ (Serves leaseDue (.event (.expiry .lease 0x250 1 1)) ∧ leaseDue.lookup 0x250 = some (0, contested)
        ∧ contested.holder = some 1 ∧ contested.lease = some 1 ∧ RecordSound contested ∧ SerialsLeft leaseDue) := by
  decide +kernel

theorem witness_WaitExpiryEndsTheClaim :
    (Serves (raised ready (.expiry .wait 0x250 2 2)) (.event (.expiry .wait 0x250 2 2))
        ∧ (raised ready (.expiry .wait 0x250 2 2)).lookup 0x250 = none)
      ∧ (Serves waitDue (.event (.expiry .wait 0x250 2 2)) ∧ waitDue.lookup 0x250 = some (0, contested)
        ∧ claim2 ∈ contested.waiters ∧ claim2.wait.serial? = some 2 ∧ RecordSound contested
        ∧ contested.lease ≠ some 2) := by decide +kernel

/-! ### Watches and the gate -/

/-- A record that P1 watches. -/
def watched : Record := { counter 0x120 with watchers := #v[none, some ⟨true, false, false⟩, none, none] }

/-- The same record, P0 having spent its 64 watches. -/
def spent : State := (demo watched 0 0x40 [1]).modifyPort 0 fun q => { q with watchCount := 64 }

theorem witness_WatchAndUnwatch :
    (Served watched 0 0x40 [8] ∧ 8 ≤ ((ask 0x40 0x120 [8]).byteAt 0).toNat)
      ∧ (Served watched 1 0x40 [7] ∧ watched.watchers[(1 : PortId)] ≠ none ∧ (ask 0x40 0x120 [7]).byteAt 0 ≠ 0
        ∧ ((ask 0x40 0x120 [7]).byteAt 0).toNat < 8)
      ∧ (Served watched 0 0x40 [1] ∧ watched.watchers[(0 : PortId)] = none
        ∧ (demo watched 0 0x40 [1]).ports[(0 : PortId)].watchCount < 64)
      ∧ (Taken spent 0 (ask 0x40 0x120 [1]) 0x40 ∧ Finds spent 0x120 0 watched
        ∧ 64 ≤ spent.ports[(0 : PortId)].watchCount)
      ∧ Served watched 0 0x41 [] ∧ Served watched 1 0x41 [] := by
  refine ⟨?_, ?_, ?_, ?_, ?_, ?_⟩ <;> decide +kernel

/-- P0's GATE in progress, the port having been reset since it was taken. -/
def resetMeanwhile : State := after (.prstAsserted 0) (asks ready 0 (ask 0x42 0 [1]))

theorem witness_GateSetsThePortsGate :
    (Taken (asks ready 0 (ask 0x42 0 [1])) 0 (ask 0x42 0 [1]) 0x42 ∧ (ask 0x42 0 [1]).byteAt 0 = Gate.isOpen.byte
        ∧ (ask 0x42 0 [1]).tag ∈ (asks ready 0 (ask 0x42 0 [1])).ports[(0 : PortId)].reserved)
      ∧ (Taken resetMeanwhile 0 (ask 0x42 0 [1]) 0x42
        ∧ (ask 0x42 0 [1]).tag ∉ resetMeanwhile.ports[(0 : PortId)].reserved)
      ∧ (Taken (asks ready 0 (ask 0x42 0 [2])) 0 (ask 0x42 0 [2]) 0x42 ∧ 1 < ((ask 0x42 0 [2]).byteAt 0).toNat) := by
  decide +kernel

/-! ### Supervision and SYNC -/

/-- A durable record of group 7 and a SYNC of it, with the group in a state. -/
def syncs (x : GroupState) : State := inGroup (demo (durable (counter 0x120) ⟨7, 2⟩) 1 0x50 []) 7 x

theorem witness_SyncFollowsTheGroupState :
    (Served (counter 0x120) 1 0x50 [] ∧ (counter 0x120).home = none)
      ∧ ∀ x ∈ [GroupState.clean, .faulted, .worn, .rewriting .captured .first, .queued],
          Taken (syncs x) 1 (ask 0x50 0x120 []) 0x50 ∧ Finds (syncs x) 0x120 0 (durable (counter 0x120) ⟨7, 2⟩)
            ∧ (syncs x).groups[(7 : GroupId)].state = x := by decide +kernel

/-- The record of 10.6 that P2 holds and P1 waits for. -/
def heldStation : Record := { heldBy station 2 3 with waiters := [⟨1, 8, 0x250, 500, .unlimited⟩] }

/-- The state of 10.6 with record 0250h alone. -/
def stationed : State :=
  (hasRecord ready 0 heldStation).modifyPort 1 fun q => { q with reserved := [8], tags := [8], parked := 1 }

/-- P3 evicts a port. -/
def evicts (v : Byte) : State := asks stationed 3 (ask 0x60 0 [v])

theorem evicts_slots (v : Byte) : (evicts v).slots = (Vector.replicate 512 none).set 0 (some heldStation) := rfl

/-- The invariants that the statement of the eviction asks of a state. -/
abbrev Evictable (s : State) : Prop :=
  IndexSound s ∧ RecordsSound s ∧ DeadlinesSound s ∧ PortsSound s ∧ ParkedSound s

/-- Such a state is sound where its ports are. -/
theorem evicts_sound {s : State} (hs : s.slots = (Vector.replicate 512 none).set 0 (some heldStation))
    (hi : s.index = [⟨0x250, 0⟩]) (hd : s.deadlines = [] ∧ s.waiting.filterMap Event.serial? = [] ∧ s.usedSerials = [])
    (hp : PortsSound s) (hk : ParkedSound s) : Evictable s := by
  refine ⟨only_record_indexed hs hi (by decide), only_record_sound hs (by decide +kernel),
    ⟨?_, ?_, ?_, ?_, ?_, ?_, fun _ => ?_⟩, hp, hk⟩
  · simp [hd]
  · simp [hd]
  · simp [hd]
  · simp [hd]
  · intro i r hr
    obtain ⟨rfl, rfl⟩ := only_slot hs hr
    refine ⟨fun n hn => absurd hn nofun, ?_⟩
    intro w hw n hn
    obtain rfl := List.mem_singleton.1 hw
    exact absurd hn nofun
  · rw [hd.2.2, only_record_parks hs]
    decide
  · rw [hd.2.2, only_record_parks hs]
    decide

/-- The eviction event of P2. -/
def evicting : State := raised stationed (.eviction 2)

theorem evicts_evictable : Evictable (evicts 3) := by
  refine evicts_sound (evicts_slots 3) rfl ⟨rfl, rfl, rfl⟩ (by unfold PortsSound PortSound EngineSound; decide +kernel) ?_
  intro p
  rw [only_record_tags (evicts_slots 3) p]
  revert p
  decide +kernel

theorem evicting_evictable : Evictable evicting := by
  refine evicts_sound (evicts_slots 2) rfl ⟨rfl, rfl, rfl⟩ (by unfold PortsSound PortSound EngineSound; decide +kernel) ?_
  intro p
  rw [only_record_tags (s := evicting) (evicts_slots 2) p]
  revert p
  decide +kernel

theorem witness_EvictionEndsAllOfThePort :
    (Taken (evicts 3) 3 (ask 0x60 0 [3]) 0x60 ∧ (evicts 3).ports[(3 : PortId)].privilege = .supervisor
        ∧ (ask 0x60 0 [3]).byteAt 0 = BitVec.ofNat 8 (3 : PortId).val ∧ Evictable (evicts 3))
      ∧ (Taken (asks ready 0 (ask 0x60 0 [2])) 0 (ask 0x60 0 [2]) 0x60
        ∧ (asks ready 0 (ask 0x60 0 [2])).ports[(0 : PortId)].privilege = .operator)
      ∧ (Taken (evicts 4) 3 (ask 0x60 0 [4]) 0x60 ∧ 3 < ((ask 0x60 0 [4]).byteAt 0).toNat)
      ∧ (Serves evicting (.event (.eviction 2)) ∧ Evictable evicting) :=
  ⟨⟨by decide +kernel, by decide +kernel, by decide, evicts_evictable⟩, by decide +kernel, by decide +kernel,
    by decide +kernel, evicting_evictable⟩

/-- A CLEAR-FAULT at a port. -/
def clears (p : PortId) (g : Byte) : State := asks (inGroup ready 15 .faulted) p (ask 0x61 0 [g])

theorem witness_ClearFaultQueuesTheGroup :
    (Taken (clears 0 15) 0 (ask 0x61 0 [15]) 0x61 ∧ (clears 0 15).ports[(0 : PortId)].privilege = .operator)
      ∧ (Taken (clears 3 16) 3 (ask 0x61 0 [16]) 0x61 ∧ (clears 3 16).ports[(3 : PortId)].privilege = .supervisor
        ∧ 15 < ((ask 0x61 0 [16]).byteAt 0).toNat)
      ∧ (Taken (clears 3 0) 3 (ask 0x61 0 [0]) 0x61 ∧ (ask 0x61 0 [0]).byteAt 0 = BitVec.ofNat 8 (0 : GroupId).val
        ∧ (clears 3 0).groups[(0 : GroupId)].state ≠ .faulted)
      ∧ (Taken (clears 3 15) 3 (ask 0x61 0 [15]) 0x61 ∧ (ask 0x61 0 [15]).byteAt 0 = BitVec.ofNat 8 (15 : GroupId).val
        ∧ (clears 3 15).groups[(15 : GroupId)].state = .faulted) := by decide +kernel

theorem witness_CensusAndGroupStatusReport :
    Taken (asks ready 0 (ask 0x62 0 [])) 0 (ask 0x62 0 []) 0x62
      ∧ (Taken (asks ready 0 (ask 0x63 0 [16])) 0 (ask 0x63 0 [16]) 0x63 ∧ 15 < ((ask 0x63 0 [16]).byteAt 0).toNat)
      ∧ (Taken (asks ready 0 (ask 0x63 0 [15])) 0 (ask 0x63 0 [15]) 0x63
        ∧ (ask 0x63 0 [15]).byteAt 0 = BitVec.ofNat 8 (15 : GroupId).val) := by decide +kernel

/-! ### Rewrites -/

/-- A part that has suspended group 3's rewrite. -/
def idle : State := { inPhase .suspended with pfw := false }

/-- A capture event that is waiting. -/
def capturing : State := raised (inGroup { ready with active := some 7 } 7 (.rewriting .captured .first)) (.capture 7)

theorem witness_RewriteStartsAndCaptures :
    (idle.phase = .running ∧ idle.pfw = false ∧ idle.active = none ∧ idle.suspended = some 3
        ∧ idle.groups[(3 : GroupId)].state = .rewriting .suspended .first)
      ∧ (({ ready with queue := [7] } : State).suspended = none ∧ ({ ready with queue := [7] } : State).queue = 7 :: [])
      ∧ (ready.suspended = none ∧ ready.queue = [])
      ∧ State.reset.phase ≠ .running
      ∧ (Serves capturing (.event (.capture 7))
        ∧ capturing.groups[(7 : GroupId)].state = .rewriting .captured .first
        ∧ capturing.groups[(7 : GroupId)].capture = none)
      ∧ (Serves (raised ready (.capture 7)) (.event (.capture 7))
        ∧ (raised ready (.capture 7)).groups[(7 : GroupId)].state.phase? ≠ some .captured) := by decide +kernel

/-- The capture of group 3's rewrite. -/
def blankCapture : Vector CapturedHome 16 := Vector.replicate 16 .free

/-- Group 3's rewrite in a phase at its last tick in time. -/
def lastTick (ph : RewritePhase) (n : Nat) : State :=
  (later ph).setGroup 3 { (later ph).groups[3] with ticks := n }

theorem witness_RewriteErasesProgramsAndSwitches :
    (Rewriting (lastTick .erasing 400) 3 .erasing .first blankCapture
        ∧ (lastTick .erasing 400).groups[(3 : GroupId)].ticks ≤ 400)
      ∧ (Rewriting (lastTick .programming 20) 3 .programming .first blankCapture
        ∧ (lastTick .programming 20).groups[(3 : GroupId)].ticks ≤ 20)
      ∧ (Rewriting (lastTick .committing 20) 3 .committing .first blankCapture
        ∧ (lastTick .committing 20).groups[(3 : GroupId)].ticks ≤ 20)
      ∧ BanksSound (lastTick .committing 20) :=
  ⟨by decide +kernel, by decide +kernel, by decide +kernel, erased_banks rfl (by decide +kernel)⟩

theorem witness_RewriteFailureRetriesOrFaults :
    (Rewriting (lastTick .erasing 401) 3 .erasing .first blankCapture
        ∧ .eraseDone true ∈ failureReports (lastTick .erasing 401).groups[(3 : GroupId)] .erasing)
      ∧ (Rewriting (lastTick .programming 0) 3 .programming .first blankCapture
        ∧ .programTimeout ∈ failureReports (lastTick .programming 0).groups[(3 : GroupId)] .programming)
      ∧ (Rewriting (inGroup (lastTick .committing 21) 3 (.rewriting .committing .retry)) 3 .committing .retry blankCapture
        ∧ .commitMarkDone true ∈
          failureReports (inGroup (lastTick .committing 21) 3 (.rewriting .committing .retry)).groups[(3 : GroupId)]
            .committing)
      ∧ BanksSound (lastTick .erasing 401)
      ∧ BanksSound (inGroup (lastTick .committing 21) 3 (.rewriting .committing .retry)) :=
  ⟨by decide +kernel, by decide +kernel, by decide +kernel, erased_banks rfl (by decide +kernel),
    erased_banks rfl (by decide +kernel)⟩

theorem witness_PauseSuspendsAndStartsTheHead :
    (Rewriting { urgent with pauseOrdered := true } 3 .erasing .first blankCapture
        ∧ ({ urgent with pauseOrdered := true } : State).pfw = false
        ∧ ({ urgent with pauseOrdered := true } : State).queue = 9 :: [7] ∧ (9 : GroupId) ≠ 3)
      ∧ (Rewriting urgent 3 .erasing .first blankCapture ∧ urgent.pfw = false ∧ urgent.pauseOrdered = false) := by
  decide +kernel

theorem witness_CommitEventsAnswerTheSyncs :
    (Serves (raised ready (.committed 7 [2])) (.event (.committed 7 [2]))
        ∧ (raised ready (.committed 7 [2])).groups[(7 : GroupId)].state ≠ .worn)
      ∧ (Serves (raised (inGroup ready 7 .worn) (.committed 7 [])) (.event (.committed 7 []))
        ∧ (raised (inGroup ready 7 .worn) (.committed 7 [])).groups[(7 : GroupId)].state = .worn)
      ∧ Serves (raised ready (.faulted 7)) (.event (.faulted 7)) := by decide +kernel

theorem witness_CommittedImageComesBack :
    (storedBank.readBytes 0 297 = imageBytes 0 57 storedCapture ∧ storedBank.readBytes 297 4 = markBytes)
      ∧ (storedCapture[(0 : Fin 16)] = .occupied ⟨0x310, 7, 0, 50, .isOpen, 41⟩ ∧ (0x310 : Key) ≠ 0x0000
        ∧ (0x310 : Key) ≠ 0xFFFF ∧ (0 : Word).toInt ≤ (7 : Word).toInt ∧ (7 : Word).toInt ≤ (50 : Word).toInt)
      ∧ storedCapture[(2 : Fin 16)] = .free :=
  ⟨⟨storedBank_image, storedBank_mark⟩, by decide +kernel, by decide +kernel⟩

end Sys2Proof.Tests
end

section
/-! SUPPORT. The arithmetic of value updates: what each instruction's result is, stated over `Record.holds` (R24) and
exact integers. -/

namespace Sys2Proof.Machine

/-! ### Words within a record's bounds -/

theorem inBounds_iff {r : Record} {x : Int} : inBounds r x = true ↔ r.holds x := by
  simp [inBounds]

/-- An integer between two words is a word. -/
theorem toInt_ofInt_of_holds {r : Record} {x : Int} (h : r.holds x) : (BitVec.ofInt 32 x).toInt = x :=
  BitVec.toInt_ofInt_eq_self (by decide) ((BitVec.le_toInt r.floor).trans h.1) (h.2.trans_lt BitVec.toInt_lt)

/-- R25: an exact result within the bounds is an unchanged update exactly where it is the present value. -/
theorem ofInt_eq_value_iff {r : Record} {x : Int} (h : r.holds x) :
    BitVec.ofInt 32 x = r.value ↔ x = r.value.toInt := by
  rw [← BitVec.toInt_inj, toInt_ofInt_of_holds h]

/-- R35, R36: the largest count is 2,147,483,647. -/
theorem countInRange_iff {n : Word} : countInRange n = true ↔ n.toNat ≤ 2147483647 := by
  simp only [countInRange, Bool.not_eq_true', BitVec.msb_eq_false_iff_two_mul_lt]
  omega

theorem countInRange_eq_false_iff {n : Word} : countInRange n = false ↔ 2147483647 < n.toNat := by
  rw [← Bool.not_eq_true, countInRange_iff, Nat.not_le]

/-- R31. -/
theorem priorFlag_iff {m : Word} {r : Record} :
    priorFlag m r = true ↔ ∃ k, r.value.getLsbD k = true ∧ m.getLsbD k = true := by
  have shares : r.value &&& m = 0 ↔ ∀ k, ¬ (r.value.getLsbD k = true ∧ m.getLsbD k = true) := by
    constructor
    · intro h k
      have hk := congrArg (·.getLsbD k) h
      simpa using hk
    · intro h
      refine BitVec.eq_of_getLsbD_eq fun k _ => ?_
      simpa using h k
  simp only [priorFlag, decide_eq_true_eq, ne_eq, shares, not_forall, not_not]

/-! ### The result of each update -/

/-- What an update comes to that assigns `v` within the bounds and is refused RANGE outside (R32, R37, R38). -/
def assignResult (v : Word) (prior : Bool) (r : Record) : UpdateResult :=
  if r.holds v.toInt then .leaves v false prior else .refused .range prior

theorem setResult_eq (v : Word) (r : Record) : setResult v r = assignResult v false r := by
  simp only [setResult, assignResult, inBounds_iff]

/-- R33: RANGE ahead of STALE. -/
theorem setIfResult_eq (v : Word) (g : Gen) (r : Record) :
    setIfResult v g r =
      if ¬ r.holds v.toInt then .refused .range false
      else if r.generation ≠ g then .refused .stale false
      else .leaves v false false := by
  simp only [setIfResult, inBounds_iff, ite_not]

theorem addResult_above {d : Word} {r : Record} (h : r.ceiling.toInt < r.value.toInt + d.toInt) :
    addResult d r = .leaves r.ceiling true false := if_pos h

theorem addResult_below {d : Word} {r : Record} (hr : r.holds r.value.toInt)
    (h : r.value.toInt + d.toInt < r.floor.toInt) : addResult d r = .leaves r.floor true false := by
  have hc : ¬ r.ceiling.toInt < r.value.toInt + d.toInt := by
    obtain ⟨hlow, hhigh⟩ := hr
    omega
  rw [addResult, if_neg hc, if_pos h]

theorem addResult_within {d : Word} {r : Record} (h : r.holds (r.value.toInt + d.toInt)) :
    addResult d r = .leaves (BitVec.ofInt 32 (r.value.toInt + d.toInt)) false false := by
  rw [addResult, if_neg h.2.not_gt, if_neg h.1.not_gt]

theorem addResult_zero {r : Record} (hr : r.holds r.value.toInt) : addResult 0 r = .leaves r.value false false := by
  have hsum : r.value.toInt + (0 : Word).toInt = r.value.toInt := by simp
  rw [addResult_within (by rwa [hsum]), hsum, BitVec.ofInt_toInt]

theorem takeResult_short {n : Word} {r : Record} (h : r.value.toInt - n.toNat < r.floor.toInt) :
    takeResult n r = .leaves r.value true false := if_pos h

theorem takeResult_whole {n : Word} {r : Record} (h : r.floor.toInt ≤ r.value.toInt - n.toNat) :
    takeResult n r = .leaves (BitVec.ofInt 32 (r.value.toInt - n.toNat)) false false := if_neg h.not_gt

theorem giveResult_full {n : Word} {r : Record} (h : r.ceiling.toInt < r.value.toInt + n.toNat) :
    giveResult n r = .leaves r.value true false := if_pos h

theorem giveResult_whole {n : Word} {r : Record} (h : r.value.toInt + n.toNat ≤ r.ceiling.toInt) :
    giveResult n r = .leaves (BitVec.ofInt 32 (r.value.toInt + n.toNat)) false false := if_neg h.not_gt

/-- R37, bit by bit. -/
theorem bitsetResult_of_bits {v m : Word} {r : Record}
    (h : ∀ k, v.getLsbD k = (r.value.getLsbD k || m.getLsbD k)) :
    bitsetResult m r = assignResult v (priorFlag m r) r := by
  have hv : v = r.value ||| m := BitVec.eq_of_getLsbD_eq fun k _ => by rw [h, BitVec.getLsbD_or]
  simp only [bitsetResult, assignResult, inBounds_iff, hv]

/-- R38, bit by bit. -/
theorem bitclrResult_of_bits {v m : Word} {r : Record}
    (h : ∀ k, v.getLsbD k = (r.value.getLsbD k && !m.getLsbD k)) :
    bitclrResult m r = assignResult v (priorFlag m r) r := by
  have hv : v = r.value &&& ~~~ m := BitVec.eq_of_getLsbD_eq fun k hk => by simp [h k, hk, -BitVec.getLsbD_eq_getElem]
  simp only [bitclrResult, assignResult, inBounds_iff, hv]

end Sys2Proof.Machine
end

section
/-! SUPPORT. What serving a value update comes to: the whole next state of a permitted update on a LIVE record, and the
rows of the seven instructions. -/

namespace Sys2Proof.Machine

/-! ### The update of a record and its answer -/

/-- R119: a dirty mark does not look at the table or the ports. -/
theorem State.dirtied_slots_ports (s : State) (h : Option HomeId) (slots : Vector (Option Record) 512)
    (ports : Vector Port 4) :
    State.dirtied { s with slots := slots, ports := ports } h =
      { s.dirtied h with slots := slots, ports := ports } := by
  cases h <;> rfl

/-- R25, R26: a changed update. -/
theorem State.leaveValue_changed {s : State} {i : Slot} {r : Record} {v : Word} (h : v ≠ r.value) :
    s.leaveValue i r v =
      { s.dirtied r.home with
        slots := s.slots.set i (some { r with value := v, generation := r.generation + 1 })
        ports := handed s.ports r.watchers Interest.value
          (.record r.key ⟨true, false, false, false, false⟩ v (r.generation + 1) r.holder) } := by
  simp only [State.leaveValue, if_neg h, State.notifyWatchers_eq, State.dirtyMarkOf_eq]
  exact s.dirtied_slots_ports r.home _ _

/-- R25 to R28: the whole next state of an update that passed its guard and operand checks. -/
def State.afterUpdate (s : State) (p : PortId) (f : RequestFrame) (i : Slot) (r : Record) : UpdateResult → State
  | .refused st prior => s.answered p f (valueAnswer st r.value r.generation false prior)
  | .leaves v limit prior => s.updated p f i r v limit prior

@[simp] theorem State.afterUpdate_refused (s : State) (p : PortId) (f : RequestFrame) (i : Slot) (r : Record)
    (st : Status) (prior : Bool) :
    s.afterUpdate p f i r (.refused st prior) =
      s.answered p f (valueAnswer st r.value r.generation false prior) := rfl

@[simp] theorem State.afterUpdate_leaves (s : State) (p : PortId) (f : RequestFrame) (i : Slot) (r : Record) (v : Word)
    (limit prior : Bool) :
    s.afterUpdate p f i r (.leaves v limit prior) = s.updated p f i r v limit prior := rfl

/-- R25: an unchanged update leaves the state. -/
theorem State.leaveValue_same (s : State) (i : Slot) (r : Record) : s.leaveValue i r r.value = s := if_pos rfl

theorem updateAnswer_same (r : Record) (limit prior : Bool) :
    updateAnswer r (.leaves r.value limit prior) = valueAnswer .ok r.value r.generation limit prior :=
  congrArg (valueAnswer .ok r.value · limit prior) (if_pos rfl)

theorem updateAnswer_changed {r : Record} {v : Word} (h : v ≠ r.value) (limit prior : Bool) :
    updateAnswer r (.leaves v limit prior) = valueAnswer .ok v (r.generation + 1) limit prior :=
  congrArg (valueAnswer .ok v · limit prior) (if_neg h)

/-- R25: an unchanged update is only answered. -/
@[simp] theorem State.updated_same (s : State) (p : PortId) (f : RequestFrame) (i : Slot) (r : Record)
    (limit prior : Bool) :
    s.updated p f i r r.value limit prior = s.answered p f (valueAnswer .ok r.value r.generation limit prior) :=
  if_pos rfl

theorem State.applyUpdate_answer_finish (s : State) (p : PortId) (f : RequestFrame) (i : Slot) (r : Record)
    (u : UpdateResult) :
    ((s.applyUpdate i r u).answer p f (updateAnswer r u)).finish = s.afterUpdate p f i r u := by
  cases u with
  | refused st prior => rfl
  | leaves v limit prior =>
    rw [State.applyUpdate, State.afterUpdate_leaves]
    by_cases h : v = r.value
    · rw [h, State.leaveValue_same, updateAnswer_same, State.answer_finish, State.updated_same]
    · rw [State.leaveValue_changed h, updateAnswer_changed h, State.updated, if_neg h]
      rfl

/-- R27, R28: an assignment leaves the value, or answers RANGE with the present one. -/
theorem State.afterUpdate_assignResult (s : State) (p : PortId) (f : RequestFrame) (i : Slot) (r : Record) (v : Word)
    (prior : Bool) :
    s.afterUpdate p f i r (assignResult v prior r) =
      if r.holds v.toInt then s.updated p f i r v false prior
      else s.answered p f (valueAnswer .range r.value r.generation false prior) :=
  apply_ite (s.afterUpdate p f i r) ..

/-! ### A permitted update on a LIVE record -/

/-- R7. -/
theorem guardRefusal_of_permitted {s : State} {p : PortId} {r : Record} (h : Permitted s p r) :
    guardRefusal r p (s.supervisor p) = none := by
  rcases h with hg | ⟨hg, hh⟩ | ⟨hg, hs⟩
  · simp [guardRefusal, hg]
  · simp [guardRefusal, hg, hh]
  · have hsup : s.supervisor p = true := decide_eq_true hs
    simp [guardRefusal, hg, hsup]

section Permitted

variable {s : State} {p : PortId} {f : RequestFrame} {i : Slot} {r : Record} {code : Byte}
  (hf : Finds s f.key i r) (hl : r.state = .live) (hp : Permitted s p r)

include hf hl hp

/-- R23: past its state and guard checks, an update is settled, or refused for its count. -/
theorem serve_update (ht : Taken s p f code) (inRange : RequestFrame → Bool)
    (result : RequestFrame → Record → UpdateResult) :
    serve code p s (fun f => serveUpdate p f (inRange f) (result f)) =
      if inRange f then s.afterUpdate p f i r (result f r) else s.answered p f (plain .badOperand) := by
  rw [serve_taken ht, serveUpdate, withLiveRecord_finds hf hl rfl rfl, guardRefusal_of_permitted hp]
  cases inRange f with
  | true => exact State.applyUpdate_answer_finish s p f i r (result f r)
  | false => exact State.answer_finish s p f _

theorem exec_set_eq (ht : Taken s p f 0x20) :
    exec (.set p) s = .next (s.afterUpdate p f i r (setResult (f.word 0) r)) :=
  congrArg Host.Outcome.next (serve_update hf hl hp ht (fun _ => true) fun f => setResult (f.word 0))

theorem exec_setIf_eq (ht : Taken s p f 0x21) :
    exec (.setIf p) s = .next (s.afterUpdate p f i r (setIfResult (f.word 0) (f.half 4) r)) :=
  congrArg Host.Outcome.next (serve_update hf hl hp ht (fun _ => true) fun f => setIfResult (f.word 0) (f.half 4))

theorem exec_add_eq (ht : Taken s p f 0x22) :
    exec (.add p) s = .next (s.afterUpdate p f i r (addResult (f.word 0) r)) :=
  congrArg Host.Outcome.next (serve_update hf hl hp ht (fun _ => true) fun f => addResult (f.word 0))

theorem exec_take_eq (ht : Taken s p f 0x23) :
    exec (.take p) s = .next (if countInRange (f.word 0) then s.afterUpdate p f i r (takeResult (f.word 0) r)
      else s.answered p f (plain .badOperand)) :=
  congrArg Host.Outcome.next
    (serve_update hf hl hp ht (fun f => countInRange (f.word 0)) fun f => takeResult (f.word 0))

theorem exec_give_eq (ht : Taken s p f 0x24) :
    exec (.give p) s = .next (if countInRange (f.word 0) then s.afterUpdate p f i r (giveResult (f.word 0) r)
      else s.answered p f (plain .badOperand)) :=
  congrArg Host.Outcome.next
    (serve_update hf hl hp ht (fun f => countInRange (f.word 0)) fun f => giveResult (f.word 0))

theorem exec_bitset_eq (ht : Taken s p f 0x25) :
    exec (.bitset p) s = .next (s.afterUpdate p f i r (bitsetResult (f.word 0) r)) :=
  congrArg Host.Outcome.next (serve_update hf hl hp ht (fun _ => true) fun f => bitsetResult (f.word 0))

theorem exec_bitclr_eq (ht : Taken s p f 0x26) :
    exec (.bitclr p) s = .next (s.afterUpdate p f i r (bitclrResult (f.word 0) r)) :=
  congrArg Host.Outcome.next (serve_update hf hl hp ht (fun _ => true) fun f => bitclrResult (f.word 0))

end Permitted

end Sys2Proof.Machine
end

section
/-! PROOFS. The statements on value updates (chapter 2): SET, SET-IF, ADD, TAKE, GIVE, BITSET and BITCLR. -/

namespace Sys2Proof.Machine

/-- Settles O36: the row's result (R32, R33) settled case by case. -/
theorem setAndSetIfAssignWithinBounds : Obligations.SetAndSetIfAssignWithinBounds := by
  intro s p f i r hf hl hp
  constructor
  · intro ht
    rw [exec_set_eq hf hl hp ht, setResult_eq, State.afterUpdate_assignResult]
  · intro ht
    rw [exec_setIf_eq hf hl hp ht, setIfResult_eq]
    simp only [apply_ite (s.afterUpdate p f i r), State.afterUpdate_refused, State.afterUpdate_leaves]

/-- Settles O37: above, below and within the bounds, by the exact sum (R34). -/
theorem addClipsTheExactSum : Obligations.AddClipsTheExactSum := by
  intro s p f i r ht hf hl hp hr sum
  rw [exec_add_eq hf hl hp ht]
  refine ⟨fun above => ?_, fun below => ?_, fun within => ?_, fun zero => ?_⟩
  · rw [addResult_above above, State.afterUpdate_leaves]
  · rw [addResult_below hr below, State.afterUpdate_leaves]
  · exact ⟨BitVec.ofInt 32 sum, toInt_ofInt_of_holds within, by rw [addResult_within within, State.afterUpdate_leaves]⟩
  · rw [zero, addResult_zero hr, State.afterUpdate_leaves, State.updated_same]

/-- Settles O38: the count is checked first; then all of it moves, or none (R35, R36). -/
theorem takeAndGiveMoveAllOrNothing : Obligations.TakeAndGiveMoveAllOrNothing := by
  intro s p f i r hf hl hp hr n
  obtain ⟨hlow, hhigh⟩ := hr
  constructor
  · intro ht
    rw [exec_take_eq hf hl hp ht]
    refine ⟨fun big => ?_, fun small short => ?_, fun small enough => ?_⟩
    · rw [countInRange_eq_false_iff.2 big, if_neg Bool.false_ne_true]
    · rw [countInRange_iff.2 small, if_pos rfl, takeResult_short short, State.afterUpdate_leaves, State.updated_same]
    · have within : r.holds (r.value.toInt - n) := ⟨enough, by omega⟩
      refine ⟨_, toInt_ofInt_of_holds within, ?_, ?_⟩
      · rw [ofInt_eq_value_iff within]
        omega
      · rw [countInRange_iff.2 small, if_pos rfl, takeResult_whole enough, State.afterUpdate_leaves]
  · intro ht
    rw [exec_give_eq hf hl hp ht]
    refine ⟨fun big => ?_, fun small full => ?_, fun small room => ?_⟩
    · rw [countInRange_eq_false_iff.2 big, if_neg Bool.false_ne_true]
    · rw [countInRange_iff.2 small, if_pos rfl, giveResult_full full, State.afterUpdate_leaves, State.updated_same]
    · have within : r.holds (r.value.toInt + n) := ⟨by omega, room⟩
      refine ⟨_, toInt_ofInt_of_holds within, ?_, ?_⟩
      · rw [ofInt_eq_value_iff within]
        omega
      · rw [countInRange_iff.2 small, if_pos rfl, giveResult_whole room, State.afterUpdate_leaves]

/-- Settles O39: the bits of the result give it as a word, and PRIOR is a shared bit (R31, R37, R38). -/
theorem bitsetAndBitclrFollowTheMask : Obligations.BitsetAndBitclrFollowTheMask := by
  intro s p f i r hf hl hp v prior hprior answer
  have hflag : priorFlag (f.word 0) r = prior := Bool.eq_iff_iff.2 (priorFlag_iff.trans hprior.symm)
  constructor
  · intro ht bits
    rw [exec_bitset_eq hf hl hp ht, bitsetResult_of_bits bits, hflag, State.afterUpdate_assignResult]
  · intro ht bits
    rw [exec_bitclr_eq hf hl hp ht, bitclrResult_of_bits bits, hflag, State.afterUpdate_assignResult]

end Sys2Proof.Machine
end

section
/-! SUPPORT. What the shared operations on holds come to: a deadline taken off the list or put on it, a hold granted and
its watchers told, a lease replaced, and the parked claim of a port. -/

namespace Sys2Proof.Machine

/-! ### Deadlines (R66) -/

theorem State.removeDeadline_eq (s : State) (n : Option Serial) :
    s.removeDeadline n = { s with deadlines := without s.deadlines n } := by
  cases n with
  | none => simp [State.removeDeadline, without]
  | some n => simp [State.removeDeadline, without]

theorem State.deadlined_zero (s : State) (kind : DeadlineKind) (key : Key) (p : PortId) :
    s.deadlined kind key p 0 = s := if_pos rfl

theorem State.deadlined_of_ne_zero {len : Ticks} (h : len ≠ 0) (s : State) (kind : DeadlineKind) (key : Key)
    (p : PortId) : s.deadlined kind key p len = s.addDeadline kind key p len := if_neg h

theorem State.serialFor_zero (s : State) : s.serialFor 0 = none := if_pos rfl

theorem State.serialFor_of_ne_zero {len : Ticks} (h : len ≠ 0) (s : State) : s.serialFor len = some s.nextSerial :=
  if_neg h

@[simp] theorem State.deadlined_slots (s : State) (kind : DeadlineKind) (key : Key) (p : PortId) (len : Ticks) :
    (s.deadlined kind key p len).slots = s.slots := by
  unfold State.deadlined
  split <;> simp

@[simp] theorem State.deadlined_ports (s : State) (kind : DeadlineKind) (key : Key) (p : PortId) (len : Ticks) :
    (s.deadlined kind key p len).ports = s.ports := by
  unfold State.deadlined
  split <;> simp

/-! ### Holds (R46, R47) -/

/-- R46, R56: the new holder's record and its lease. -/
theorem State.grant_eq (s : State) (i : Slot) (r : Record) (p : PortId) (len : Ticks) :
    s.grant i r p len =
      { s.deadlined .lease r.key p len with
        slots := s.slots.set i (some { r with holder := some p, holdCount := 1, lease := s.serialFor len }) } := by
  by_cases h : len = 0
  · rw [h, State.deadlined_zero, State.serialFor_zero]
    rfl
  · rw [State.grant, if_neg h, State.deadlined_of_ne_zero h, State.serialFor_of_ne_zero h, State.setSlot]
    simp

/-- R46, R56, R57: the HOLDER notice of a record, to all its watchers at once. -/
theorem State.notifyHolder_eq {s : State} {i : Slot} {r : Record} (h : s.slots[i] = some r) :
    s.notifyHolder i =
      { s with ports := handed s.ports r.watchers Interest.holder (holderNotice r r.holder) } := by
  simp only [State.notifyHolder, h, State.notifyWatchers_eq]
  rfl

/-- R47, R71: the old lease's entry goes before the new one's serial is drawn. -/
theorem State.setLease_eq {r : Record} {p : PortId} (h : r.holder = some p) (s : State) (i : Slot) (len : Ticks) :
    s.setLease i r len =
      (let s' := { s with deadlines := without s.deadlines r.lease }
       { s'.deadlined .lease r.key p len with
         slots := s.slots.set i (some { r with lease := s'.serialFor len }) }) := by
  simp only [State.setLease, h, State.removeDeadline_eq]
  by_cases hz : len = 0
  · rw [if_pos hz, hz, State.deadlined_zero, State.serialFor_zero]
    rfl
  · rw [if_neg hz, State.deadlined_of_ne_zero hz, State.serialFor_of_ne_zero hz, State.setSlot]
    simp

/-- R47: a further claim that asks no lease. -/
theorem State.raiseHold_zero (s : State) (i : Slot) (r : Record) :
    s.raiseHold i r 0 = { s with slots := s.slots.set i (some { r with holdCount := r.holdCount + 1 }) } := by
  rw [State.raiseHold, if_pos rfl]
  rfl

/-- R47: a further claim that asks a lease. -/
theorem State.raiseHold_of_ne_zero {r : Record} {p : PortId} {len : Ticks} (h : r.holder = some p) (hlen : len ≠ 0)
    (s : State) (i : Slot) :
    s.raiseHold i r len =
      (let s' := { s with deadlines := without s.deadlines r.lease }
       { s'.addDeadline .lease r.key p len with
         slots := s.slots.set i (some { r with holdCount := r.holdCount + 1, lease := some s'.nextSerial }) }) := by
  have held : { r with holdCount := r.holdCount + 1 }.holder = some p := h
  simp only [State.raiseHold, if_neg hlen, State.setLease_eq held, State.deadlined_of_ne_zero hlen,
    State.serialFor_of_ne_zero hlen]

/-- R51: the hold of the slot's record. -/
theorem State.answerHold_eq {s : State} {i : Slot} {r : Record} (h : s.slots[i] = some r) (p : PortId)
    (f : RequestFrame) (st : Status) :
    s.answerHold p f i st = s.answer p f (answerWith st (.hold (s.holdBlock r))) := by
  simp only [State.answerHold, h]

/-! ### Parked claims (R42) -/

theorem Record.claimOf_isSome_iff {r : Record} {p : PortId} :
    (r.claimOf p).isSome ↔ ∃ w ∈ r.waiters, w.port = p := by
  simp [Record.claimOf, List.find?_isSome]

end Sys2Proof.Machine
end

section
/-! SUPPORT. The modes of a CLAIM, and what a CLAIM of a LIVE record does by the holder it finds (R45 to R50). -/

namespace Sys2Proof.Machine

/-! ### Modes (R45) -/

/-- R45: the mode is WAIT, whose limit is not 0, or WAIT-UNLIMITED. -/
abbrev AsksToWait (f : RequestFrame) : Prop := (f.byteAt 0 = 1 ∧ f.half 1 ≠ 0) ∨ f.byteAt 0 = 2

/-- R50: the wait limit of a claim that parks; 0 for an unlimited wait. -/
def waitLimit (f : RequestFrame) : Ticks := if f.byteAt 0 = 1 then f.half 1 else 0

theorem claimMode_noWait {f : RequestFrame} (h : f.byteAt 0 = 0) : claimMode f = some .noWait := if_pos h

theorem claimMode_wait {f : RequestFrame} (h : f.byteAt 0 = 1) (hl : f.half 1 ≠ 0) :
    claimMode f = some (.wait (f.half 1)) := by
  rw [claimMode, if_neg (by simp [h]), if_pos h, if_neg hl]

theorem claimMode_waitUnlimited {f : RequestFrame} (h : f.byteAt 0 = 2) : claimMode f = some .waitUnlimited := by
  simp [claimMode, h]

theorem claimMode_of_valid {f : RequestFrame} (h : f.byteAt 0 = 0 ∨ AsksToWait f) :
    ∃ mode, claimMode f = some mode := by
  obtain h | ⟨h, hl⟩ | h := h
  · exact ⟨_, claimMode_noWait h⟩
  · exact ⟨_, claimMode_wait h hl⟩
  · exact ⟨_, claimMode_waitUnlimited h⟩

/-- R50: what a mode that may park gives the claim: its WAIT deadline and its wait. -/
theorem claimMode_of_asksToWait {f : RequestFrame} (h : AsksToWait f) (s : State) (p : PortId) (key : Key) :
    ∃ mode, claimMode f = some mode ∧ mode ≠ .noWait
      ∧ s.addWait p key mode = s.deadlined .wait key p (waitLimit f)
      ∧ s.parkWait mode = if f.byteAt 0 = 1 then .limited (f.half 1) s.nextSerial else .unlimited := by
  obtain ⟨h, hl⟩ | h := h
  · refine ⟨_, claimMode_wait h hl, nofun, ?_, (if_pos h).symm⟩
    rw [waitLimit, if_pos h, State.deadlined_of_ne_zero hl]
    rfl
  · have hne : f.byteAt 0 ≠ 1 := by simp [h]
    refine ⟨_, claimMode_waitUnlimited h, nofun, ?_, (if_neg hne).symm⟩
    rw [waitLimit, if_neg hne, State.deadlined_zero]
    rfl

/-! ### By the holder -/

theorem exec_claim_eq {s : State} {p : PortId} {f : RequestFrame} (ht : Taken s p f 0x30) :
    exec (.claim p) s = .next (serveClaim p f s).finish :=
  congrArg Host.Outcome.next (serve_taken ht (serveClaim p))

section LiveRecord

variable {s : State} {p : PortId} {f : RequestFrame} {i : Slot} {r : Record} {mode : ClaimMode}
  (hf : Finds s f.key i r) (hl : r.state = .live)

include hf in
/-- A refusal reports the hold as it stands and does nothing else (R47 to R49, R51). -/
theorem answerHold_finish (st : Status) :
    (s.answerHold p f i st).finish = s.answered p f (answerWith st (.hold (s.holdBlock r))) := by
  obtain ⟨hslot, -⟩ := State.lookup_some hf.2
  rw [State.answerHold_eq hslot, State.answer_finish]

variable (hm : claimMode f = some mode)

include hf hl hm

/-- R46. -/
theorem serveClaim_unheld (h : r.holder = none) :
    serveClaim p f s = ((s.grant i r p (f.half 3)).notifyHolder i).answerHeld p f .granted 1 (leaseOf (f.half 3))
      r.waiters.length := by
  rw [serveClaim, withLiveRecord_finds hf hl rfl rfl, hm]
  exact if_pos h

/-- R47. -/
theorem serveClaim_holder (h : r.holder = some p) :
    serveClaim p f s =
      if 15 ≤ r.holdCount then s.answerHold p f i .holdLimit
      else (s.raiseHold i r (f.half 3)).answerHeld p f .granted (r.holdCount + 1) (s.raisedLease r (f.half 3))
        r.waiters.length := by
  have held : r.holder ≠ none := by simp [h]
  rw [serveClaim, withLiveRecord_finds hf hl rfl rfl, hm]
  exact (if_neg held).trans (if_pos h)

/-- R48 to R50. -/
theorem serveClaim_held {q : PortId} (h : r.holder = some q) (hq : q ≠ p) :
    serveClaim p f s = claimHeld p f s i r mode := by
  have held : r.holder ≠ none := by simp [h]
  have other : r.holder ≠ some p := by simp [h, hq]
  rw [serveClaim, withLiveRecord_finds hf hl rfl rfl, hm]
  exact (if_neg held).trans (if_neg other)

end LiveRecord

/-! ### Of a record that another port holds (R48 to R50) -/

section HeldByAnother

variable {s : State} {p : PortId} {f : RequestFrame} {i : Slot} {r : Record} {mode : ClaimMode}

theorem claimHeld_noWait : claimHeld p f s i r .noWait = s.answerHold p f i .busy := if_pos rfl

theorem claimHeld_waiting (hm : mode ≠ .noWait) (hw : ∃ w ∈ r.waiters, w.port = p) :
    claimHeld p f s i r mode = s.answerHold p f i .alreadyWaiting := by
  rw [claimHeld, if_neg hm, if_pos (Record.claimOf_isSome_iff.2 hw)]

theorem claimHeld_not_waiting (hm : mode ≠ .noWait) (hw : ∀ w ∈ r.waiters, w.port ≠ p) :
    claimHeld p f s i r mode =
      if 2 ≤ s.ports[p].parked then s.answerHold p f i .parkLimit else s.parkClaim p f i r mode := by
  have notParked : ¬ (r.claimOf p).isSome := by simpa [Record.claimOf_isSome_iff] using hw
  rw [claimHeld, if_neg hm, if_neg notParked]
  rfl

end HeldByAnother

/-- R50: the claim at the tail of the waiter list, with its deadline and its count. -/
theorem State.parkClaim_eq {s : State} {p : PortId} {f : RequestFrame} {r : Record} {mode : ClaimMode} {len : Ticks}
    (h : s.addWait p r.key mode = s.deadlined .wait r.key p len) (i : Slot) :
    s.parkClaim p f i r mode =
      { s.deadlined .wait r.key p len with
        slots := s.slots.set i (some { r with
          waiters := r.waiters ++ [⟨p, f.tag, r.key, f.half 3, s.parkWait mode⟩] })
        ports := s.ports.set p { s.ports[p] with parked := s.ports[p].parked + 1 } } := by
  simp [State.parkClaim, State.park, State.modifyPort, State.setSlot, claimLease, h]

end Sys2Proof.Machine
end

section
/-! PROOFS. The statements on CLAIM (chapter 3). -/

namespace Sys2Proof.Machine

/-- Settles O41: the grant and the HOLDER notice, with no lease and no waiter left from before (R44, R46, R57). -/
theorem claimOfUnheldRecordIsGranted : Obligations.ClaimOfUnheldRecordIsGranted := by
  intro s p f i r ht hf hl hsound hnone _ hvalid
  obtain ⟨-, -, -, unheld, -⟩ := hsound
  obtain ⟨-, hwaiters⟩ := unheld hnone
  obtain ⟨mode, hm⟩ := claimMode_of_valid hvalid
  have granted : (s.grant i r p (f.half 3)).slots[i] =
      some { r with holder := some p, holdCount := 1, lease := s.serialFor (f.half 3) } := by
    simp [State.grant_eq]
  rw [exec_claim_eq ht, serveClaim_unheld hf hl hm hnone, State.notifyHolder_eq granted, State.grant_eq, hwaiters]
  simp [State.answerHeld, State.answer_eq, holderNotice]

/-- Settles O42: the count decides; below its limit the lease asked decides (R47). -/
theorem claimByTheHolderRaisesTheCount : Obligations.ClaimByTheHolderRaisesTheCount := by
  intro s p f i r ht hf hl hholder _ hvalid
  obtain ⟨mode, hm⟩ := claimMode_of_valid hvalid
  rw [exec_claim_eq ht, serveClaim_holder hf hl hm hholder]
  refine ⟨fun full => ?_, fun room hz => ?_, fun room hnz => ?_⟩
  · rw [if_pos full, answerHold_finish hf, State.holdBlock, hholder]
  · rw [if_neg room.not_ge, hz, State.raiseHold_zero, State.raisedLease, if_pos rfl]
    rfl
  · rw [if_neg room.not_ge, State.raiseHold_of_ne_zero hholder hnz, State.raisedLease, if_neg hnz, newLease,
      if_neg hnz]
    simp [State.answerHeld, State.answer_eq]

/-- Settles O43: the mode, then the claim already parked, then the parked count (R48 to R50). -/
theorem claimOfHeldRecordWaitsOrIsRefused : Obligations.ClaimOfHeldRecordWaitsOrIsRefused := by
  intro s p f i r q ht hf hl hholder hq refused waits
  have refuses (st : Status) (h : serveClaim p f s = s.answerHold p f i st) : refused st := by
    show exec (.claim p) s = _
    rw [exec_claim_eq ht, h, answerHold_finish hf, State.holdBlock, hholder]
  have served {mode : ClaimMode} (hm : claimMode f = some mode) : serveClaim p f s = claimHeld p f s i r mode :=
    serveClaim_held hf hl hm hholder hq
  refine ⟨fun now => ?_, fun hwaits parked => ?_, fun hwaits free full => ?_, fun hwaits free room => ?_⟩
  · exact refuses .busy ((served (claimMode_noWait now)).trans claimHeld_noWait)
  all_goals obtain ⟨mode, hm, hmode, hadd, hpark⟩ := claimMode_of_asksToWait hwaits s p r.key
  · exact refuses .alreadyWaiting ((served hm).trans (claimHeld_waiting hmode parked))
  · exact refuses .parkLimit (by rw [served hm, claimHeld_not_waiting hmode free, if_pos full])
  · rw [exec_claim_eq ht, served hm, claimHeld_not_waiting hmode free, if_neg room.not_ge, State.parkClaim_eq hadd,
      hpark, waitLimit]

end Sys2Proof.Machine
end

section
/-! PROOFS. A notice handed to a port, and the statement on it (chapter 5). -/

namespace Sys2Proof.Machine

/-! ### Handing a notice (R86, R87) -/

/-- What the merge of `n` leaves of the notices of other keys. -/
theorem map_merge_of_other_keys {n : Notice} {l : List Notice} (h : ∀ x ∈ l, x.sameKey n = false) :
    (l.map fun x => if x.sameKey n then x.merge n else x) = l :=
  (List.map_congr_left fun x hx => if_neg (by simp [h x hx])).trans (List.map_id l)

theorem Port.handNotice_of_queued {q : Port} {n m : Notice} (hm : m ∈ q.notices) (hk : m.sameKey n = true) :
    q.handNotice n = { q with notices := q.notices.map fun x => if x.sameKey n then x.merge n else x } :=
  if_pos (List.any_eq_true.2 ⟨m, hm, hk⟩)

theorem Port.handNotice_of_not_queued {q : Port} {n : Notice} (h : ∀ x ∈ q.notices, x.sameKey n = false) :
    q.handNotice n =
      if q.noticeCount < Config.noticeDepth then { q with notices := q.notices ++ [n] }
      else { q with lost := true, lostSince := true } :=
  if_neg (by simpa using h)

/-- Settles O28: whether the queue has a notice of the key decides, and the merge is the model's union of kinds
(R86 to R88). -/
theorem noticeMergesJoinsOrIsLost : Obligations.NoticeMergesJoinsOrIsLost := by
  refine ⟨fun q n m pre post hq hk others => ?_, fun q n h => Port.handNotice_of_not_queued h,
    fun _ _ _ _ _ _ _ _ _ => rfl, fun _ _ _ _ => rfl⟩
  obtain ⟨before, after⟩ := List.forall_mem_append.1 others
  rw [Port.handNotice_of_queued (by simp [hq]) hk, hq, List.map_append, List.map_cons,
    map_merge_of_other_keys before, map_merge_of_other_keys after, if_pos hk]

end Sys2Proof.Machine
end

section
/-! PROOFS. The judgment of a SUBMIT frame, and the statement on it (chapter 9). -/

namespace Sys2Proof.Machine

/-! ### A port whose transaction has begun -/

theorem State.linked_iff {s : State} {p : PortId} : s.linked p = true ↔ Linked s p := by
  simp [State.linked]

theorem State.inBegun_of_begun {s : State} {p : PortId} (hl : Linked s p) (hb : s.ports[p].transaction = .begun)
    (f : Port → Port) : s.inBegun p f = s.modifyPort p f :=
  if_pos ⟨State.linked_iff.2 hl, hb⟩

/-! ### The checks of R162 and the parts of a frame -/

theorem State.ready_iff {s : State} : s.ready = true ↔ s.phase = .running := decide_eq_true_iff

/-- R162, check 2: the empty list has no length byte. -/
theorem lengthGood_iff {bytes : List Byte} : lengthGood bytes = true ↔ LengthGood bytes := by
  cases bytes with
  | nil => simp [lengthGood]
  | cons n rest => simp [lengthGood, LengthGood, and_assoc]

theorem crcGood_iff {bytes : List Byte} : crcGood bytes = true ↔ CrcGood bytes :=
  decide_eq_true_iff.trans eq_comm

/-- R161: the operands stand behind the five bytes of the head and ahead of the two of the CRC, also where the list is
too short for either. -/
theorem parseFrame_eq (bytes : List Byte) :
    parseFrame bytes = {
      code := bytes.getD 1 0, tag := tagOf bytes, key := bytes.getD 3 0 ++ bytes.getD 4 0
      operands := (bytes.drop 5).take (bytes.length - 7) } := by
  simp only [parseFrame, tagOf, List.drop_take, Nat.sub_sub]

/-! ### The judgment and what it leaves of the port -/

/-- R162: the first check that fails, in the words of the statement. -/
theorem judgeSubmit_eq (s : State) (p : PortId) (bytes : List Byte) :
    judgeSubmit s.ready s.ports[p] bytes =
      if s.phase ≠ .running then .notReady
      else if ¬ LengthGood bytes then .badLength
      else if ¬ CrcGood bytes then .badCrc
      else if tagOf bytes ∈ s.ports[p].tags then .tagInUse
      else if 4 ≤ s.ports[p].requests.length then .queueFull
      else .accepted := by
  have room : s.ports[p].requests.length < Config.requestDepth ↔ ¬ 4 ≤ s.ports[p].requests.length := Nat.not_le.symm
  simp only [judgeSubmit, Bool.not_eq_true', ← Bool.not_eq_true, State.ready_iff, lengthGood_iff, crcGood_iff,
    parseFrame_eq, room, ite_not, ne_eq]

/-- What the release of a SUBMIT frame leaves, by its judgment. -/
def State.afterSubmit (s : State) (p : PortId) (bytes : List Byte) (x : SubmitResult) : State :=
  if x = .accepted then
    { s with ports := s.ports.set p { s.ports[p] with
      requests := s.ports[p].requests ++ [parseFrame bytes]
      tags := s.ports[p].tags ++ [tagOf bytes], lastSubmit := .accepted, transaction := .none } }
  else s.judged p x

theorem State.afterSubmit_accepted (s : State) (p : PortId) (bytes : List Byte) :
    s.afterSubmit p bytes .accepted =
      { s with ports := s.ports.set p { s.ports[p] with
        requests := s.ports[p].requests ++ [parseFrame bytes]
        tags := s.ports[p].tags ++ [tagOf bytes], lastSubmit := .accepted, transaction := .none } } := if_pos rfl

theorem State.afterSubmit_refused (s : State) (p : PortId) (bytes : List Byte) {x : SubmitResult}
    (hx : x ≠ .accepted) : s.afterSubmit p bytes x = s.judged p x := if_neg hx

theorem State.modifyPort_submitPort (s : State) (p : PortId) (bytes : List Byte) :
    s.modifyPort p (submitPort s.ready bytes) = s.afterSubmit p bytes (judgeSubmit s.ready s.ports[p] bytes) := by
  by_cases hj : judgeSubmit s.ready s.ports[p] bytes = .accepted
  · rw [hj, State.afterSubmit_accepted, State.modifyPort, submitPort, if_pos hj]
    rfl
  · rw [State.afterSubmit_refused s p bytes hj, State.modifyPort, submitPort, if_neg hj]
    rfl

theorem exec_submit_eq {s : State} {p : PortId} (bytes : List Byte) (hl : Linked s p)
    (hb : s.ports[p].transaction = .begun) :
    exec (.submit p bytes) s =
      .next (s.afterSubmit p bytes (judgeSubmit s.ready s.ports[p] bytes)).engaged := by
  rw [← State.modifyPort_submitPort, ← State.inBegun_of_begun hl hb]
  rfl

/-- Settles O24: the judgment is the chain of the five checks, and what the release leaves goes by its result (R162). -/
theorem submitJudgesTheFrame : Obligations.SubmitJudgesTheFrame := by
  intro s p bytes hl hb
  have refused {x : SubmitResult} (hx : x ≠ .accepted) : s.afterSubmit p bytes x = s.judged p x :=
    State.afterSubmit_refused s p bytes hx
  rw [exec_submit_eq bytes hl hb, judgeSubmit_eq]
  simp only [apply_ite (s.afterSubmit p bytes)]
  rw [refused (x := .notReady) nofun, refused (x := .badLength) nofun, refused (x := .badCrc) nofun,
    refused (x := .tagInUse) nofun, refused (x := .queueFull) nofun, State.afterSubmit_accepted, parseFrame_eq]

end Sys2Proof.Machine
end

section
/-! SUPPORT. What a command can do, said once: the effects that the item of a request or of an event can have, and the
outcome of every other command. Each statement about every command is a case split over these. -/

namespace Sys2Proof.Machine

/-! ### The item of a request -/

/-- The effects of a request `f` of port `p`, each under the checks that it has passed. -/
inductive Served (p : PortId) (f : RequestFrame) (s : State) : State → Prop
  | answered (a : Answer) : Served p f s (s.answer p f a)
  | created (i : Slot) (g : Guard) (h : Option HomeId) (key : isRecordKey f.key = true)
      (absent : s.lookup f.key = none) (bounds : createBoundsGood (createOperands f) = true)
      (free : s.freeSlot = some i) (home : ∀ x ∈ h, s.chooseHome f.key = some x) :
      Served p f s (createIn p f s i g h)
  | retiredNow (i : Slot) (r : Record) (found : s.lookup f.key = some (i, r)) (live : r.state = .live)
      (own : r.holder = none ∨ r.holder = some p) : Served p f s (retireNow p f s i r)
  | retiredLater (i : Slot) (r : Record) (h : PortId) (found : s.lookup f.key = some (i, r)) (live : r.state = .live)
      (held : r.holder = some h) (other : h ≠ p) : Served p f s (retireLater p f s i r)
  | guarded (i : Slot) (r : Record) (g : Guard) (a : Answer) (found : s.lookup f.key = some (i, r))
      (live : r.state = .live) : Served p f s ((s.changeGuard i r g).answer p f a)
  | updated (i : Slot) (r : Record) (v : Word) (a : Answer) (found : s.lookup f.key = some (i, r))
      (live : r.state = .live) (within : r.holds r.value.toInt → r.holds v.toInt) :
      Served p f s ((s.leaveValue i r v).answer p f a)
  | granted (i : Slot) (r : Record) (len : Ticks) (a : Answer) (found : s.lookup f.key = some (i, r))
      (live : r.state = .live) (unheld : r.holder = none) :
      Served p f s (((s.grant i r p len).notifyHolder i).answer p f a)
  | raised (i : Slot) (r : Record) (len : Ticks) (a : Answer) (found : s.lookup f.key = some (i, r))
      (live : r.state = .live) (held : r.holder = some p) (room : r.holdCount < 15) :
      Served p f s ((s.raiseHold i r len).answer p f a)
  | parked (i : Slot) (r : Record) (h : PortId) (mode : ClaimMode) (found : s.lookup f.key = some (i, r))
      (live : r.state = .live) (held : r.holder = some h) (other : h ≠ p)
      (first : ∀ w ∈ r.waiters, w.port ≠ p) (room : s.ports[p].parked < 2) : Served p f s (s.parkClaim p f i r mode)
  | lowered (i : Slot) (r : Record) (n : Nat) (a : Answer) (found : s.lookup f.key = some (i, r))
      (held : r.holder = some p) (left : 0 < n) (fewer : n < r.holdCount) :
      Served p f s ((s.setSlot i (some { r with holdCount := n })).answer p f a)
  | released (i : Slot) (r : Record) (a : Answer) (found : s.lookup f.key = some (i, r)) (held : r.holder = some p) :
      Served p f s ((s.endHold i false).answer p f a)
  | renewed (i : Slot) (r : Record) (len : Ticks) (a : Answer) (found : s.lookup f.key = some (i, r))
      (held : r.holder = some p) : Served p f s ((s.setLease i r len).answer p f a)
  | cancelled (i : Slot) (r : Record) (w : ParkedClaim) (a : Answer) (found : s.lookup f.key = some (i, r))
      (claim : r.claimOf p = some w) : Served p f s ((s.endClaim i w .cancelled).answer p f a)
  | rewatched (i : Slot) (r : Record) (x : Interest) (a : Answer) (found : s.lookup f.key = some (i, r))
      (live : r.state = .live) (wants : x.value ∨ x.holder ∨ x.life) (watches : r.watchers[p].isSome = true) :
      Served p f s ((s.setWatch p i r x false).answer p f a)
  | watched (i : Slot) (r : Record) (x : Interest) (a : Answer) (found : s.lookup f.key = some (i, r))
      (live : r.state = .live) (wants : x.value ∨ x.holder ∨ x.life) (fresh : r.watchers[p] = none)
      (room : s.ports[p].watchCount < 64) : Served p f s ((s.setWatch p i r x true).answer p f a)
  | unwatched (i : Slot) (r : Record) (a : Answer) (found : s.lookup f.key = some (i, r)) :
      Served p f s ((s.clearWatch p i r).answer p f a)
  | gated (g : Gate) (a : Answer) : Served p f s ((s.modifyPort p (gatedPort f.tag g)).answer p f a)
  | synced (g : GroupId) (ph : RewritePhase) (at' : Attempt) (busy : s.groups[g].state = .rewriting ph at')
      (room : s.ports[p].parked < 2) : Served p f s (s.parkSync p f g (!s.groups[g].dirtyAgain))
  | promoted (g : GroupId) (queued : s.groups[g].state = .queued) (room : s.ports[p].parked < 2) :
      Served p f s ((s.parkSync p f g false).promote g)
  | evicted (v : PortId) (a : Answer) : Served p f s ((s.evict v true).answer p f a)
  | cleared (g : GroupId) (a : Answer) (faulted : s.groups[g].state = .faulted) :
      Served p f s ((s.clearFault g).answer p f a)

variable {p : PortId} {f : RequestFrame} {s : State}

theorem Served.withRecord {body : Slot → Record → State}
    (h : ∀ i r, s.lookup f.key = some (i, r) → Served p f s (body i r)) : Served p f s (withRecord p f s body) := by
  unfold Machine.withRecord
  split
  · split
    · exact .answered _
    · exact h _ _ ‹_›
  · exact .answered _

theorem Served.withLiveRecord {body : Slot → Record → State}
    (h : ∀ i r, s.lookup f.key = some (i, r) → r.state = .live → Served p f s (body i r)) :
    Served p f s (withLiveRecord p f s body) := by
  refine .withRecord fun i r found => ?_
  split
  · exact h i r found ‹_›
  · exact .answered _

theorem served_create : Served p f s (serveCreate p f s) := by
  unfold serveCreate
  dsimp only
  split
  · exact .answered _
  split
  · exact .answered _
  rename_i key
  split
  · exact .answered _
  rename_i absent
  split
  · exact .answered _
  split
  · exact .answered _
  rename_i bounds
  split
  · exact .answered _
  rename_i free
  have made (h : Option HomeId) (home : ∀ x ∈ h, s.chooseHome f.key = some x) (g : Guard) :=
    Served.created (p := p) _ g h (by simpa using key) absent (by simpa using bounds) free home
  split
  · split
    · exact .answered _
    · exact made _ (by simpa using ‹s.chooseHome f.key = some _›) _
  · exact made none (by simp) _

theorem served_find : Served p f s (serveFind p f s) := .withRecord fun _ _ _ => .answered _

theorem served_next : Served p f s (serveNext p f s) := by
  unfold serveNext
  split
  · exact .answered _
  · split <;> exact .answered _

theorem served_retire : Served p f s (serveRetire p f s) := by
  refine .withLiveRecord fun i r found live => ?_
  split
  · exact .answered _
  · split
    · exact .retiredNow i r found live ‹_›
    · rename_i h
      rw [not_or] at h
      obtain ⟨q, hq⟩ := Option.ne_none_iff_exists'.1 h.1
      exact .retiredLater i r q found live hq fun e => h.2 (e ▸ hq)

theorem served_setGuard : Served p f s (serveSetGuard p f s) := by
  unfold serveSetGuard
  split
  · exact .answered _
  · refine .withLiveRecord fun i r found live => ?_
    split
    · exact .answered _
    · split
      · exact .answered _
      · exact .guarded i r _ _ found live

/-- An update that passes leaves a value within the bounds. -/
abbrev ResultWithin (result : Record → UpdateResult) : Prop :=
  ∀ r v limit prior, result r = .leaves v limit prior → r.holds r.value.toInt → r.holds v.toInt

theorem served_update {inRange : Bool} {result : Record → UpdateResult} (h : ResultWithin result) :
    Served p f s (serveUpdate p f inRange result s) := by
  refine .withLiveRecord fun i r found live => ?_
  split
  · exact .answered _
  · split
    · cases hu : result r with
      | refused st prior => exact .answered _
      | leaves v limit prior => exact .updated i r v _ found live (h r v limit prior hu)
    · exact .answered _

theorem resultWithin_assign {result : Record → UpdateResult} {v : Record → Word} {prior : Record → Bool}
    (h : ∀ r, result r = assignResult (v r) (prior r) r) : ResultWithin result := by
  intro r v' limit prior' hr _
  rw [h, assignResult] at hr
  split at hr
  · cases hr; assumption
  · cases hr

theorem resultWithin_set (v : Word) : ResultWithin (setResult v) := resultWithin_assign (setResult_eq v)

theorem resultWithin_setIf (v : Word) (g : Gen) : ResultWithin (setIfResult v g) := by
  intro r v' limit prior hr _
  rw [setIfResult_eq] at hr
  split at hr
  · cases hr
  · rename_i h
    rw [not_not] at h
    split at hr <;> cases hr
    exact h

theorem resultWithin_add (d : Word) : ResultWithin (addResult d) := by
  intro r v limit prior hr ⟨low, high⟩
  unfold addResult at hr
  split at hr
  · cases hr; exact ⟨by omega, le_refl _⟩
  · split at hr <;> cases hr
    · exact ⟨le_refl _, by omega⟩
    · have within : r.holds (r.value.toInt + d.toInt) := ⟨by omega, by omega⟩
      rwa [toInt_ofInt_of_holds within]

theorem resultWithin_take (n : Word) : ResultWithin (takeResult n) := by
  intro r v limit prior hr ⟨low, high⟩
  unfold takeResult at hr
  split at hr <;> cases hr
  · exact ⟨low, high⟩
  · have within : r.holds (r.value.toInt - n.toNat) := ⟨by omega, by omega⟩
    rwa [toInt_ofInt_of_holds within]

theorem resultWithin_give (n : Word) : ResultWithin (giveResult n) := by
  intro r v limit prior hr ⟨low, high⟩
  unfold giveResult at hr
  split at hr <;> cases hr
  · exact ⟨low, high⟩
  · have within : r.holds (r.value.toInt + n.toNat) := ⟨by omega, by omega⟩
    rwa [toInt_ofInt_of_holds within]

theorem resultWithin_bitset (m : Word) : ResultWithin (bitsetResult m) :=
  resultWithin_assign (v := fun r => r.value ||| m) (prior := priorFlag m) fun r => by
    simp only [bitsetResult, assignResult, inBounds_iff]

theorem resultWithin_bitclr (m : Word) : ResultWithin (bitclrResult m) :=
  resultWithin_assign (v := fun r => r.value &&& ~~~ m) (prior := priorFlag m) fun r => by
    simp only [bitclrResult, assignResult, inBounds_iff]

theorem Served.answerHold (i : Slot) (st : Status) : Served p f s (s.answerHold p f i st) := by
  unfold State.answerHold
  split <;> exact .answered _

theorem served_claim : Served p f s (serveClaim p f s) := by
  refine .withLiveRecord fun i r found live => ?_
  split
  · exact .answered _
  rename_i mode _
  split
  · exact .granted i r _ _ found live ‹_›
  rename_i held
  split
  · split
    · exact .answerHold _ _
    · exact .raised i r _ _ found live ‹_› (not_le.1 ‹_›)
  rename_i other
  unfold claimHeld
  split
  · exact .answerHold _ _
  split
  · exact .answerHold _ _
  rename_i first
  split
  · exact .answerHold _ _
  obtain ⟨q, hq⟩ := Option.ne_none_iff_exists'.1 held
  exact .parked i r q mode found live hq (fun e => other (e ▸ hq))
    (by simpa [Record.claimOf_isSome_iff] using first) (not_le.1 ‹_›)

theorem served_release : Served p f s (serveRelease p f s) := by
  refine .withRecord fun i r found => ?_
  split
  · split
    · rename_i held
      unfold releaseHold
      dsimp only
      split
      · exact .released i r _ found held
      · rename_i left
        have hpos := Nat.pos_of_ne_zero left
        refine .lowered i r _ _ found held hpos ?_
        unfold countAfter at hpos ⊢
        split at hpos
        · simp at hpos
        · rw [if_neg ‹_›]; omega
    · exact .answered _
  · exact .answered _

theorem served_renew : Served p f s (serveRenew p f s) := by
  refine .withRecord fun i r found => ?_
  split
  · exact .renewed i r _ _ found ‹_›
  · exact .answered _

theorem served_cancelWait : Served p f s (serveCancelWait p f s) := by
  refine .withRecord fun i r found => ?_
  split
  · exact .answered _
  · exact .cancelled i r _ _ found ‹_›

/-- R79, R190: an interest byte with a meaning names an interest. -/
theorem interest_of_byte {x : Byte} {i : Interest} (h : Interest.ofByte? x = some i) :
    i.value ∨ i.holder ∨ i.life := by
  unfold Interest.ofByte? at h
  split at h
  · cases h
  · rename_i hx
    cases h
    by_contra hall
    simp only [not_or, Bool.not_eq_true] at hall hx
    obtain ⟨h0, h1, h2⟩ := hall
    obtain ⟨hne, hlt⟩ := hx
    apply hne
    refine BitVec.eq_of_getLsbD_eq fun k hk => ?_
    have small : ∀ k, 3 ≤ k → x.getLsbD k = false := fun k hk => by
      rw [BitVec.getLsbD, Nat.testBit_lt_two_pow]
      exact lt_of_lt_of_le (by omega) (Nat.pow_le_pow_right (n := 2) (by omega) hk)
    rcases k with _ | _ | _ | k
    · simpa using h0
    · simpa using h1
    · simpa using h2
    · rw [small _ (by omega)]; simp

theorem served_watch : Served p f s (serveWatch p f s) := by
  refine .withLiveRecord fun i r found live => ?_
  split
  · exact .answered _
  rename_i x hx
  have wants := interest_of_byte hx
  split
  · exact .rewatched i r x _ found live wants ‹_›
  · split
    · exact .watched i r x _ found live wants (by simpa using ‹¬ r.watchers[p].isSome = true›) ‹_›
    · exact .answered _

theorem served_unwatch : Served p f s (serveUnwatch p f s) := by
  refine .withRecord fun i r found => ?_
  split
  · exact .unwatched i r _ found
  · exact .answered _

theorem served_gate : Served p f s (serveGate p f s) := by
  unfold serveGate
  split
  · exact .answered _
  · exact .gated _ _

theorem served_sync : Served p f s (serveSync p f s) := by
  refine .withRecord fun i r found => ?_
  split
  · exact .answered _
  unfold syncGroup
  split
  · exact .answered _
  · exact .answered _
  · exact .answered _
  · split
    · exact .answered _
    · exact .promoted _ ‹_› (not_le.1 ‹_›)
  · split
    · exact .answered _
    · exact .synced _ _ _ ‹_› (not_le.1 ‹_›)

theorem served_evict : Served p f s (serveEvict p f s) := by
  unfold serveEvict
  split
  · exact .answered _
  · split
    · exact .answered _
    · exact .evicted _ _

theorem served_clearFault : Served p f s (serveClearFault p f s) := by
  unfold serveClearFault
  split
  · exact .answered _
  · split
    · exact .answered _
    · split
      · exact .cleared _ _ ‹_›
      · exact .answered _

theorem served_groupStatus : Served p f s (serveGroupStatus p f s) := by
  unfold serveGroupStatus
  split <;> exact .answered _

/-! ### The item of an internal event -/

/-- The effects of an internal event. -/
inductive Handled (s : State) : Event → State → Prop
  | discarded (e : Event) (stale : (∃ kind key p n, e = .expiry kind key p n) ∨ ∃ g, e = .capture g) : Handled s e s
  | leaseExpired (key : Key) (p : PortId) (n : Serial) (i : Slot) (r : Record)
      (found : s.lookup key = some (i, r)) (held : r.holder = some p) (lease : r.lease = some n) :
      Handled s (.expiry .lease key p n) (s.endHold i true)
  | waitExpired (key : Key) (p : PortId) (n : Serial) (i : Slot) (r : Record) (w : ParkedClaim)
      (found : s.lookup key = some (i, r)) (claim : r.claimOf p = some w) (serial : w.wait.serial? = some n) :
      Handled s (.expiry .wait key p n) (s.endClaim i w .waitExpired)
  | evicted (p : PortId) : Handled s (.eviction p) (s.evict p false)
  | captured (g : GroupId) (at' : Attempt) (state : s.groups[g].state = .rewriting .captured at')
      (none : s.groups[g].capture = none) :
      Handled s (.capture g) (s.setGroup g { s.groups[g] with
        state := .rewriting .erasing at', capture := some (s.captureGroup g), dirtyAgain := false
        syncs := s.groups[g].syncs.map fun w => { w with captured := true }, ticks := 0 })
  | committed (g : GroupId) (noted : List (Fin 16)) : Handled s (.committed g noted) (s.commitGroup g noted)
  | faulted (g : GroupId) :
      Handled s (.faulted g) ((s.answerSyncs g (fun _ => true) .storeFault).deviceNotice kindStoreFault (some g))

theorem handled_lease (key : Key) (p : PortId) (n : Serial) :
    Handled s (.expiry .lease key p n) (s.expireLease key p n) := by
  have stale : Handled s (.expiry .lease key p n) s := .discarded _ (.inl ⟨_, _, _, _, rfl⟩)
  unfold State.expireLease
  split
  · exact stale
  · split
    · rename_i found h
      exact .leaseExpired key p n _ _ found h.1 h.2
    · exact stale

theorem handled_wait (key : Key) (p : PortId) (n : Serial) :
    Handled s (.expiry .wait key p n) (s.expireWait key p n) := by
  have stale : Handled s (.expiry .wait key p n) s := .discarded _ (.inl ⟨_, _, _, _, rfl⟩)
  unfold State.expireWait
  split
  · exact stale
  · split
    · exact stale
    · split
      · exact .waitExpired key p n _ _ _ ‹_› ‹_› ‹_›
      · exact stale

theorem handled_capture (g : GroupId) : Handled s (.capture g) (s.acceptCapture g (s.captureGroup g)) := by
  unfold State.acceptCapture
  split
  · exact .captured g _ ‹_› ‹_›
  · exact .discarded _ (.inr ⟨_, rfl⟩)

/-! ### The rows of requests and events -/

/-- A row of a request or of an event does nothing, or its item has its effects and ends. -/
inductive ItemRan (c : Instr) (s : State) : State → Prop
  | idle (row : (∃ p, c ∈ requestRows p) ∨ c ∈ eventRows) : ItemRan c s s
  | request (p : PortId) (f : RequestFrame) (u : State) (row : c ∈ requestRows p) (item : s.request p = some f)
      (served : Served p f s u) : ItemRan c s u.finish
  | event (e : Event) (u : State) (row : c ∈ eventRows) (item : s.event = some e) (handled : Handled s e u) :
      ItemRan c s u.finish

theorem itemRan_serve {c : Instr} {code : Byte} {body : RequestFrame → State → State} (row : c ∈ requestRows p)
    (h : ∀ f, Served p f s (body f s)) : ItemRan c s (serve code p s body) := by
  unfold serve
  split
  · exact .idle (.inl ⟨p, row⟩)
  · split
    · exact .request p _ _ row ‹_› (h _)
    · exact .idle (.inl ⟨p, row⟩)

/-! ### The other commands -/

/-- What a transaction command makes of its port, whose transaction has begun, without work for the Table Engine. -/
inductive LinkServed (s : State) : Instr → PortId → (Port → Port) → Prop
  | fetched (p : PortId) : LinkServed s (.fetch p) p fetchPort
  | noticeFetched (p : PortId) : LinkServed s (.fetchNotice p) p fetchNoticePort
  | peeked (p : PortId) : LinkServed s (.peek p) p peekPort
  | unknown (p : PortId) (code : Byte) : LinkServed s (.unknownTransaction p code) p unknownPort

/-- What a report of the array makes of the active rewrite `a`. -/
inductive Reported (s : State) (a : ActiveRewrite) : State → Prop
  | erased (phase : s.activeIn .erasing = some a) :
      Reported s a { (s.setSpare a.group Memory.erased).enterPhase a .programming with pauseOrdered := false }
  | suspended (phase : s.activeIn .erasing = some a) (ordered : s.pauseOrdered = true) (pfw : s.pfw = true) :
      Reported s a (s.suspendActive a)
  | paused (phase : s.activeIn .erasing = some a) (ordered : s.pauseOrdered = true) (pfw : s.pfw = false) :
      Reported s a (s.suspendActive a).startHead
  | programmed (phase : s.activeIn .programming = some a) :
      Reported s a ((s.setSpare a.group (s.programmedImage a)).enterPhase a .committing)
  | switched (phase : s.activeIn .committing = some a) :
      Reported s a
        ((s.setSpare a.group ((s.spareBank a.group).writeBytes 297 commitMark)).switch a.group a.capture)
  | failed (ph : RewritePhase) (m : Memory) (phase : s.activeIn ph = some a)
      (left : m = leftNotValid a.group s.fresh ∨ m = leftInvalid a.group s.fresh ∨ m = leftProgrammed s.fresh
        ∨ m = markFailed (s.spareBank a.group) s.fresh) : Reported s a (s.failsLeaving a m)

/-- The reports of the array. -/
def reportRows : List Instr :=
  [.eraseDone true, .eraseDone false, .eraseTimeout, .erasePaused, .programmingDone true, .programmingDone false,
   .programTimeout, .commitMarkDone true, .commitMarkDone false, .commitMarkTimeout]

/-- What a command comes to. -/
inductive Ran (s : State) : Instr → State → Prop
  | idle (c : Instr) : Ran s c s
  | request (c : Instr) (p : PortId) (f : RequestFrame) (u : State) (row : c ∈ requestRows p)
      (item : s.request p = some f) (served : Served p f s u) : Ran s c u.finish
  | event (c : Instr) (e : Event) (u : State) (row : c ∈ eventRows) (item : s.event = some e)
      (handled : Handled s e u) : Ran s c u.finish
  | reset : Ran s .deviceReset (s.cutOffRewrites.cleared .reset)
  | powerLost : Ran s .lossOfPower (s.cutOffRewrites.cleared .off)
  | restored (v0 v1 v2 v3 : Privilege) (held : s.phase = .reset) :
      Ran s (.restore v0 v1 v2 v3) ((s.beginRestore.sampleStraps v0 v1 v2 v3).restoreGroups (List.finRange 16))
  | restoreEnded (restoring : s.phase = .restoring) :
      Ran s .restoreEnd (State.engaged
        { (s.restoreLostNotices (List.finRange 16)).powerWarnSeen with phase := .running, pfwSeen := false })
  | portReset (p : PortId) (level : s.ports[p].prst = false) :
      Ran s (.prstAsserted p) ((s.modifyPort p prstPort).raiseEviction p)
  | portReleased (p : PortId) :
      Ran s (.prstDeasserted p) (s.modifyPort p fun q => { q with prst := false })
  | pfwServing (running : s.phase = .running) (level : s.pfw = false) :
      Ran s .pfwAsserted
        ((State.abandonActive (State.abandonSuspended { s with pfw := true })).deviceNotice kindPowerWarn none)
  | pfwEarly (seen : Bool) (early : s.phase ≠ .running) :
      Ran s .pfwAsserted { s with pfw := true, pfwSeen := seen }
  | pfwReleased : Ran s .pfwDeasserted { s with pfw := false }
  | ticked (on : s.phase = .running ∨ s.phase = .restoring) :
      Ran s .tick { s.fallAllDue.tickActive with time := s.time + 1 }
  | fellDue : Ran s .fallingDue s.fallDue
  | begun (p : PortId) (linked : Linked s p)
      (idle : s.ports[p].transaction = .none ∨ s.ports[p].transaction = .begun) :
      Ran s (.transactionBegin p) (s.modifyPort p (beginTransaction s.ready))
  | submitted (p : PortId) (bytes : List Byte) :
      Ran s (.submit p bytes) (s.inBegun p (submitPort s.ready bytes)).engaged
  | fetchReleased (p : PortId) (clocked : Nat) :
      Ran s (.fetchRelease p clocked) (s.modifyPort p (fetchReleasePort clocked)).engaged
  | noticeReleased (p : PortId) (clocked : Nat) :
      Ran s (.fetchNoticeRelease p clocked) (s.modifyPort p (fetchNoticeReleasePort clocked))
  | link (c : Instr) (p : PortId) (g : Port → Port) (linked : Linked s p)
      (begun : s.ports[p].transaction = .begun) (served : LinkServed s c p g) : Ran s c (s.modifyPort p g)
  | started (running : s.phase = .running) : Ran s .rewriteStart s.startWork
  | report (c : Instr) (a : ActiveRewrite) (u : State) (row : c ∈ reportRows)
      (reported : Reported s a u) : Ran s c u

variable {c : Instr}

theorem ItemRan.ran {t : State} (h : ItemRan c s t) : Ran s c t := by
  cases h with
  | idle => exact .idle c
  | request p f u row item served => exact .request c p f u row item served
  | event e u row item handled => exact .event c e u row item handled

theorem ran_inBegun {g : Port → Port} (h : LinkServed s c p g) : Ran s c (s.inBegun p g) := by
  unfold State.inBegun
  split
  · rename_i begun
    exact .link c p g (State.linked_iff.1 begun.1) begun.2 h
  · exact .idle c

/-- A report of the array finds the active rewrite in its phase, or nothing comes about. -/
theorem ran_report {ph : RewritePhase} {body : ActiveRewrite → State} (row : c ∈ reportRows)
    (h : ∀ a, s.activeIn ph = some a → Reported s a (body a)) :
    Ran s c (match s.activeIn ph with
      | none => s
      | some a => body a) := by
  split
  · exact .idle c
  · exact .report c _ _ row (h _ ‹_›)

end Sys2Proof.Machine
end

section
/-! PROOFS. Every command answers a next state, and what that is; the statements that follow from it at once. -/

namespace Sys2Proof.Machine

variable {s : State}

/-- A command answers a next state, one of those that it can come to. -/
def Runs (c : Instr) (s : State) : Prop := ∃ t, exec c s = .next t ∧ Ran s c t

theorem Runs.idle {c : Instr} (h : exec c s = .next s) : Runs c s := ⟨s, h, .idle c⟩

/-! ### The rows of requests and events -/

theorem runs_serve {c : Instr} {p : PortId} {code : Byte} {body : RequestFrame → State → State}
    (row : c ∈ requestRows p) (hc : exec c s = .next (serve code p s body)) (h : ∀ f, Served p f s (body f s)) :
    Runs c s := ⟨_, hc, (itemRan_serve row h).ran⟩

theorem runs_badRequest (p : PortId) : Runs (.badRequest p) s := by
  cases hf : s.request p with
  | none => exact .idle (by show execBadRequest p s = _; simp only [execBadRequest, hf])
  | some f =>
    by_cases hs : f.sound
    · exact .idle (by show execBadRequest p s = _; simp only [execBadRequest, hf, if_pos hs])
    · exact ⟨_, by show execBadRequest p s = _; simp only [execBadRequest, hf, if_neg hs],
        .request _ p f _ (by simp [requestRows]) hf (.answered (plain .badRequest))⟩

theorem runs_request {c : Instr} {p : PortId} (row : c ∈ requestRows p) : Runs c s := by
  have served {code : Byte} {body : RequestFrame → State → State} := runs_serve (s := s) (code := code) (body := body) row
  simp only [requestRows, List.mem_cons, List.not_mem_nil, or_false] at row
  rcases row with rfl | rfl | rfl | rfl | rfl | rfl | rfl | rfl | rfl | rfl | rfl | rfl | rfl | rfl | rfl | rfl | rfl
    | rfl | rfl | rfl | rfl | rfl | rfl | rfl | rfl
  · exact served rfl fun f => served_create
  · exact served rfl fun f => served_find
  · exact served rfl fun f => served_next
  · exact served rfl fun f => served_retire
  · exact served rfl fun f => served_setGuard
  · exact served rfl fun f => served_update (resultWithin_set _)
  · exact served rfl fun f => served_update (resultWithin_setIf _ _)
  · exact served rfl fun f => served_update (resultWithin_add _)
  · exact served rfl fun f => served_update (resultWithin_take _)
  · exact served rfl fun f => served_update (resultWithin_give _)
  · exact served rfl fun f => served_update (resultWithin_bitset _)
  · exact served rfl fun f => served_update (resultWithin_bitclr _)
  · exact served rfl fun f => served_claim
  · exact served rfl fun f => served_release
  · exact served rfl fun f => served_renew
  · exact served rfl fun f => served_cancelWait
  · exact served rfl fun f => served_watch
  · exact served rfl fun f => served_unwatch
  · exact served rfl fun f => served_gate
  · exact served rfl fun f => served_sync
  · exact served rfl fun f => served_evict
  · exact served rfl fun f => served_clearFault
  · exact served rfl fun f => .answered _
  · exact served rfl fun f => served_groupStatus
  · exact runs_badRequest p

/-- The row of the event in progress makes its effects; any other row of an event does nothing. -/
theorem runs_event {c : Instr} (row : c ∈ eventRows) : Runs c s := by
  have handled {e : Event} {u : State} (he : s.event = some e) (h : Handled s e u) : Ran s c u.finish :=
    .event c e u row he h
  simp only [eventRows, List.mem_cons, List.not_mem_nil, or_false] at row
  rcases row with rfl | rfl | rfl | rfl | rfl | rfl
  · cases he : s.event with
    | none => exact .idle (by show execLeaseExpiry s = _; simp only [execLeaseExpiry, he])
    | some e =>
      rcases e with ⟨⟨⟩⟩ | _ | _ | _ | _
      · exact ⟨_, by show execLeaseExpiry s = _; simp only [execLeaseExpiry, he], handled he (handled_lease _ _ _)⟩
      all_goals exact .idle (by show execLeaseExpiry s = _; simp only [execLeaseExpiry, he])
  · cases he : s.event with
    | none => exact .idle (by show execWaitExpiry s = _; simp only [execWaitExpiry, he])
    | some e =>
      rcases e with ⟨⟨⟩⟩ | _ | _ | _ | _
      case expiry.wait => exact ⟨_, by show execWaitExpiry s = _; simp only [execWaitExpiry, he], handled he (handled_wait _ _ _)⟩
      all_goals exact .idle (by show execWaitExpiry s = _; simp only [execWaitExpiry, he])
  · cases he : s.event with
    | none => exact .idle (by show execEvictionEvent s = _; simp only [execEvictionEvent, he])
    | some e =>
      cases e with
      | eviction p => exact ⟨_, by show execEvictionEvent s = _; simp only [execEvictionEvent, he], handled he (.evicted p)⟩
      | _ => exact .idle (by show execEvictionEvent s = _; simp only [execEvictionEvent, he])
  · cases he : s.event with
    | none => exact .idle (by show execCaptureEvent s = _; simp only [execCaptureEvent, he])
    | some e =>
      cases e with
      | capture g => exact ⟨_, by show execCaptureEvent s = _; simp only [execCaptureEvent, he], handled he (handled_capture g)⟩
      | _ => exact .idle (by show execCaptureEvent s = _; simp only [execCaptureEvent, he])
  · cases he : s.event with
    | none => exact .idle (by show execCommitEvent s = _; simp only [execCommitEvent, he])
    | some e =>
      cases e with
      | committed g noted => exact ⟨_, by show execCommitEvent s = _; simp only [execCommitEvent, he], handled he (.committed g noted)⟩
      | _ => exact .idle (by show execCommitEvent s = _; simp only [execCommitEvent, he])
  · cases he : s.event with
    | none => exact .idle (by show execCommitEventFaulted s = _; simp only [execCommitEventFaulted, he])
    | some e =>
      cases e with
      | faulted g => exact ⟨_, by show execCommitEventFaulted s = _; simp only [execCommitEventFaulted, he], handled he (.faulted g)⟩
      | _ => exact .idle (by show execCommitEventFaulted s = _; simp only [execCommitEventFaulted, he])

/-! ### The reports of the array -/

/-- A report of the array finds the active rewrite in its phase, or nothing comes about. -/
theorem runs_report {c : Instr} {ph : RewritePhase} (row : c ∈ reportRows)
    (idle : s.activeIn ph = none → exec c s = .next s)
    (h : ∀ a, s.activeIn ph = some a → ∃ u, exec c s = .next u ∧ (Reported s a u ∨ u = s)) : Runs c s := by
  cases ha : s.activeIn ph with
  | none => exact .idle (idle ha)
  | some a =>
    obtain ⟨u, hu, hr | rfl⟩ := h a ha
    · exact ⟨u, hu, .report c a u row hr⟩
    · exact .idle hu

theorem runs_eraseDone (ok : Bool) : Runs (.eraseDone ok) s := by
  refine runs_report (ph := .erasing) (by cases ok <;> simp [reportRows])
    (fun ha => by show execEraseDone ok s = _; simp only [execEraseDone, ha]) fun a ha => ?_
  show ∃ u, execEraseDone ok s = .next u ∧ _
  simp only [execEraseDone, ha]
  split
  · split
    · exact ⟨_, rfl, .inl (.erased ha)⟩
    · exact ⟨_, rfl, .inl (.failed .erasing _ ha (.inl rfl))⟩
  · exact ⟨_, rfl, .inl (.failed .erasing _ ha (.inr (.inl rfl)))⟩

theorem runs_eraseTimeout : Runs .eraseTimeout s := by
  refine runs_report (ph := .erasing) (by simp [reportRows])
    (fun ha => by show execEraseTimeout s = _; simp only [execEraseTimeout, ha]) fun a ha => ?_
  show ∃ u, execEraseTimeout s = .next u ∧ _
  simp only [execEraseTimeout, ha]
  exact ⟨_, rfl, .inl (.failed .erasing _ ha (.inl rfl))⟩

theorem runs_erasePaused : Runs .erasePaused s := by
  refine runs_report (ph := .erasing) (by simp [reportRows])
    (fun ha => by show execErasePaused s = _; simp only [execErasePaused, ha]) fun a ha => ?_
  show ∃ u, execErasePaused s = .next u ∧ _
  simp only [execErasePaused, ha]
  split
  · rename_i ordered
    split
    · exact ⟨_, rfl, .inl (.suspended ha ordered ‹_›)⟩
    · exact ⟨_, rfl, .inl (.paused ha ordered (by simpa using ‹¬ s.pfw = true›))⟩
  · exact ⟨_, rfl, .inr rfl⟩

theorem runs_programmingDone (ok : Bool) : Runs (.programmingDone ok) s := by
  refine runs_report (ph := .programming) (by cases ok <;> simp [reportRows])
    (fun ha => by show execProgrammingDone ok s = _; simp only [execProgrammingDone, ha]) fun a ha => ?_
  show ∃ u, execProgrammingDone ok s = .next u ∧ _
  simp only [execProgrammingDone, ha]
  split
  · exact ⟨_, rfl, .inl (.programmed ha)⟩
  · exact ⟨_, rfl, .inl (.failed .programming _ ha (.inr (.inr (.inl rfl))))⟩

theorem runs_programTimeout : Runs .programTimeout s := by
  refine runs_report (ph := .programming) (by simp [reportRows])
    (fun ha => by show execProgramTimeout s = _; simp only [execProgramTimeout, ha]) fun a ha => ?_
  show ∃ u, execProgramTimeout s = .next u ∧ _
  simp only [execProgramTimeout, ha]
  exact ⟨_, rfl, .inl (.failed .programming _ ha (.inr (.inr (.inl rfl))))⟩

theorem runs_commitMarkDone (ok : Bool) : Runs (.commitMarkDone ok) s := by
  refine runs_report (ph := .committing) (by cases ok <;> simp [reportRows])
    (fun ha => by show execCommitMarkDone ok s = _; simp only [execCommitMarkDone, ha]) fun a ha => ?_
  show ∃ u, execCommitMarkDone ok s = .next u ∧ _
  simp only [execCommitMarkDone, ha]
  split
  · exact ⟨_, rfl, .inl (.switched ha)⟩
  · exact ⟨_, rfl, .inl (.failed .committing _ ha (.inr (.inr (.inr rfl))))⟩

theorem runs_commitMarkTimeout : Runs .commitMarkTimeout s := by
  refine runs_report (ph := .committing) (by simp [reportRows])
    (fun ha => by show execCommitMarkTimeout s = _; simp only [execCommitMarkTimeout, ha]) fun a ha => ?_
  show ∃ u, execCommitMarkTimeout s = .next u ∧ _
  simp only [execCommitMarkTimeout, ha]
  exact ⟨_, rfl, .inl (.failed .committing _ ha (.inr (.inr (.inr rfl))))⟩

/-! ### The device, its pins, its timer and its links -/

theorem runs_restore (v0 v1 v2 v3 : Privilege) : Runs (.restore v0 v1 v2 v3) s := by
  by_cases h : s.phase = .reset
  · exact ⟨_, if_pos h, .restored v0 v1 v2 v3 h⟩
  · exact .idle (if_neg h)

theorem runs_restoreEnd : Runs .restoreEnd s := by
  by_cases h : s.phase = .restoring
  · exact ⟨_, if_pos h, .restoreEnded h⟩
  · exact .idle (if_neg h)

theorem runs_prstAsserted (p : PortId) : Runs (.prstAsserted p) s := by
  by_cases h : s.ports[p].prst = true
  · exact .idle (if_pos h)
  · exact ⟨_, if_neg h, .portReset p (by simpa using h)⟩

theorem runs_pfwAsserted : Runs .pfwAsserted s := by
  by_cases h : s.pfw = true
  · exact .idle (if_pos h)
  · cases hp : s.phase with
    | running =>
      exact ⟨_, by show execPfwAsserted s = _; simp only [execPfwAsserted, if_neg h, hp], .pfwServing hp (by simpa using h)⟩
    | restoring =>
      exact ⟨_, by show execPfwAsserted s = _; simp only [execPfwAsserted, if_neg h, hp], .pfwEarly true (by simp [hp])⟩
    | reset =>
      exact ⟨_, by show execPfwAsserted s = _; simp only [execPfwAsserted, if_neg h, hp], .pfwEarly s.pfwSeen (by simp [hp])⟩
    | off =>
      exact ⟨_, by show execPfwAsserted s = _; simp only [execPfwAsserted, if_neg h, hp], .pfwEarly s.pfwSeen (by simp [hp])⟩

theorem runs_tick : Runs .tick s := by
  by_cases h : s.phase = .running ∨ s.phase = .restoring
  · exact ⟨_, if_pos h, .ticked h⟩
  · exact .idle (if_neg h)

theorem runs_transactionBegin (p : PortId) : Runs (.transactionBegin p) s := by
  by_cases h : s.linked p ∧ (s.ports[p].transaction = .none ∨ s.ports[p].transaction = .begun)
  · exact ⟨_, if_pos h, .begun p (State.linked_iff.1 h.1) h.2⟩
  · exact .idle (if_neg h)

theorem runs_unknownTransaction (p : PortId) (code : Byte) : Runs (.unknownTransaction p code) s := by
  cases h : transactionKind code with
  | unknown =>
    exact ⟨_, by show execUnknownTransaction p code s = _; simp only [execUnknownTransaction, h], ran_inBegun (.unknown p code)⟩
  | _ => exact .idle (by show execUnknownTransaction p code s = _; simp only [execUnknownTransaction, h])

theorem runs_rewriteStart : Runs .rewriteStart s := by
  by_cases h : s.phase = .running
  · exact ⟨_, if_pos h, .started h⟩
  · exact .idle (if_neg h)

theorem runs (c : Instr) (s : State) : Runs c s := by
  by_cases hrow : ∃ p, c ∈ requestRows p
  · obtain ⟨p, row⟩ := hrow
    exact runs_request row
  by_cases erow : c ∈ eventRows
  · exact runs_event erow
  cases c with
  | deviceReset => exact ⟨_, rfl, .reset⟩
  | restore v0 v1 v2 v3 => exact runs_restore v0 v1 v2 v3
  | restoreEnd => exact runs_restoreEnd
  | prstAsserted p => exact runs_prstAsserted p
  | prstDeasserted p => exact ⟨_, rfl, .portReleased p⟩
  | pfwAsserted => exact runs_pfwAsserted
  | pfwDeasserted => exact ⟨_, rfl, .pfwReleased⟩
  | tick => exact runs_tick
  | fallingDue => exact ⟨_, rfl, .fellDue⟩
  | transactionBegin p => exact runs_transactionBegin p
  | submit p bytes => exact ⟨_, rfl, .submitted p bytes⟩
  | fetch p => exact ⟨_, rfl, ran_inBegun (.fetched p)⟩
  | fetchRelease p clocked => exact ⟨_, rfl, .fetchReleased p clocked⟩
  | fetchNotice p => exact ⟨_, rfl, ran_inBegun (.noticeFetched p)⟩
  | fetchNoticeRelease p clocked => exact ⟨_, rfl, .noticeReleased p clocked⟩
  | peek p => exact ⟨_, rfl, ran_inBegun (.peeked p)⟩
  | unknownTransaction p code => exact runs_unknownTransaction p code
  | rewriteStart => exact runs_rewriteStart
  | eraseDone ok => exact runs_eraseDone ok
  | eraseTimeout => exact runs_eraseTimeout
  | erasePaused => exact runs_erasePaused
  | programmingDone ok => exact runs_programmingDone ok
  | programTimeout => exact runs_programTimeout
  | commitMarkDone ok => exact runs_commitMarkDone ok
  | commitMarkTimeout => exact runs_commitMarkTimeout
  | lossOfPower => exact ⟨_, rfl, .powerLost⟩
  | leaseExpiry | waitExpiry | evictionEvent | captureEvent | commitEvent | commitEventFaulted =>
    exact absurd (by simp [eventRows]) erow
  | create p | find p | next p | retire p | setGuard p | set p | setIf p | add p | take p | give p | bitset p
  | bitclr p | claim p | release p | renew p | cancelWait p | watch p | unwatch p | gate p | sync p | evict p
  | clearFault p | census p | groupStatus p | badRequest p =>
    exact absurd ⟨p, by simp [requestRows]⟩ hrow

/-- What a command answers is one of the states that it can come to. -/
theorem exec_ran {c : Instr} {t : State} (h : exec c s = .next t) : Ran s c t := by
  obtain ⟨u, hu, hr⟩ := runs c s
  rw [hu] at h
  cases h
  exact hr

/-- An invariant that every command keeps and that does not see the commands waiting is kept by every step. -/
theorem step_keeps {P : State → Prop} (pending : ∀ (s : State) (cs : List Instr), P s → P { s with pending := cs })
    (keeps : ∀ (c : Instr) (s t : State), Ran s c t → P s → P t) {t : State} (hs : P s) (h : step s = .next t) :
    P t := by
  unfold step at h
  split at h
  · cases h; exact hs
  · exact keeps _ _ _ (exec_ran h) (pending s _ hs)

/-- Settles O1: the two cases of the queue. -/
theorem stepRunsTheFrontCommand : Obligations.StepRunsTheFrontCommand :=
  ⟨fun _ _ _ h => by simp only [step, h], fun _ h => by simp only [step, h]⟩

end Sys2Proof.Machine
end

section
/-! SUPPORT. What the effects of an item and the work of the Store Engine leave as they were. -/

namespace Sys2Proof.Machine

variable {p : PortId} {f : RequestFrame} {s u : State} {e : Event} {c : Instr} {a : ActiveRewrite}

/-- No effect of a request reaches the commands waiting, the engine, device time, the rewrites in the array or the
banks. -/
theorem Served.frame (h : Served p f s u) :
    u.pending = s.pending ∧ u.phase = s.phase ∧ u.pointer = s.pointer ∧ u.item = s.item ∧ u.time = s.time
      ∧ u.active = s.active ∧ u.suspended = s.suspended ∧ u.banks = s.banks ∧ u.pfw = s.pfw ∧ u.pfwSeen = s.pfwSeen
      ∧ u.fresh = s.fresh := by
  cases h <;> simp [createIn, retireNow, retireLater]

/-- Nor does an effect of an event. -/
theorem Handled.frame (h : Handled s e u) :
    u.pending = s.pending ∧ u.phase = s.phase ∧ u.pointer = s.pointer ∧ u.item = s.item ∧ u.time = s.time
      ∧ u.active = s.active ∧ u.suspended = s.suspended ∧ u.banks = s.banks ∧ u.pfw = s.pfw
      ∧ u.pfwSeen = s.pfwSeen := by
  cases h <;> simp

/-- A report of the array reaches the store, the events and the engine alone. -/
theorem Reported.frame (h : Reported s a u) :
    u.pending = s.pending ∧ u.phase = s.phase ∧ u.slots = s.slots ∧ u.index = s.index ∧ u.homeMap = s.homeMap
      ∧ u.time = s.time ∧ u.deadlines = s.deadlines ∧ u.serial = s.serial ∧ u.pfw = s.pfw ∧ u.pfwSeen = s.pfwSeen := by
  cases h <;> simp [State.failsLeaving]

/-! ### An item in progress -/

theorem State.engaged_item {x : Item} (h : s.item = some x) : s.engaged.item = some x := by
  rw [State.engaged_busy (by simp [h]), h]

theorem State.raiseAll_item {x : Item} (h : s.item = some x) (es : List Event) : (s.raiseAll es).item = some x :=
  State.engaged_item h

theorem State.raise_item {x : Item} (h : s.item = some x) (e : Event) : (s.raise e).item = some x :=
  State.raiseAll_item h [e]

theorem State.startHead_item {x : Item} (h : s.item = some x) : s.startHead.item = some x := by
  unfold State.startHead
  split
  · exact h
  · exact State.raise_item (by simpa using h) _

theorem State.resume_item (s : State) (g : GroupId) : (s.resume g).item = s.item := by
  unfold State.resume
  split <;> simp

theorem State.startWork_item {x : Item} (h : s.item = some x) : s.startWork.item = some x := by
  unfold State.startWork
  split
  · exact h
  · split
    · exact h
    · split
      · rw [State.resume_item, h]
      · exact State.startHead_item h

theorem Reported.item {x : Item} (h : Reported s a u) (hi : s.item = some x) : u.item = some x := by
  cases h with
  | erased => simpa using hi
  | suspended => simpa using hi
  | paused => exact State.startHead_item (by simpa using hi)
  | programmed => simpa using hi
  | switched => exact State.startWork_item (State.raise_item (by simpa using hi) _)
  | failed ph m =>
    unfold State.failsLeaving State.rewriteFails
    split
    · split <;> simpa using hi
    · exact State.startWork_item (State.raise_item (by simpa using hi) _)

/-- The commands by which an item in progress does not stay (R155). -/
theorem Ran.item {t : State} {x : Item} (h : Ran s c t) (hi : s.item = some x) :
    t.item = some x ∨ c = .deviceReset ∨ c = .lossOfPower
      ∨ (∃ p f, x.client = .request p f ∧ c ∈ requestRows p) ∨ ∃ e, x.client = .event e ∧ c ∈ eventRows := by
  cases h with
  | idle => exact .inl hi
  | request _ p f u row item =>
    have hc := State.request_iff.1 item
    simp only [Serves, hi, Option.map_some, Option.some.injEq] at hc
    exact .inr (.inr (.inr (.inl ⟨p, f, hc, row⟩)))
  | event _ e u row item =>
    have hc := State.event_iff.1 item
    simp only [Serves, hi, Option.map_some, Option.some.injEq] at hc
    exact .inr (.inr (.inr (.inr ⟨e, hc, row⟩)))
  | reset => exact .inr (.inl rfl)
  | powerLost => exact .inr (.inr (.inl rfl))
  | restored => exact .inl (by simpa using hi)
  | restoreEnded => exact .inl (State.engaged_item (by simpa using hi))
  | portReset p =>
    refine .inl ?_
    unfold State.raiseEviction
    split
    · split
      · simpa using hi
      · exact State.raise_item (by simpa using hi) _
    · simpa using hi
  | ticked => exact .inl ((State.tickActive_frame _).2.2.2.2.2.2.2.1.trans (State.raiseAll_item (by simpa using hi) _))
  | fellDue =>
    refine .inl ?_
    unfold State.fallDue
    split
    · exact hi
    · split
      · exact State.raise_item (by simpa using hi) _
      · exact hi
  | submitted p bytes => exact .inl (State.engaged_item (by simpa using hi))
  | fetchReleased p k => exact .inl (State.engaged_item (by simpa using hi))
  | started => exact .inl (State.startWork_item hi)
  | report _ a u row reported => exact .inl (reported.item hi)
  | portReleased | pfwServing | pfwEarly | pfwReleased | begun | noticeReleased | link =>
    exact .inl (by simpa using hi)

/-- The commands waiting stand through every command (log 1). -/
theorem Ran.pending {t : State} (h : Ran s c t) : t.pending = s.pending := by
  cases h with
  | request _ p f u row item served => simpa using served.frame.1
  | event _ e u row item handled => simpa using handled.frame.1
  | report _ a u row reported => exact reported.frame.1
  | reset | powerLost => simp [State.cleared]
  | _ => simp

/-- Settles O2: what each command comes to keeps the commands waiting. -/
theorem everyCommandAnswersNext : Obligations.EveryCommandAnswersNext := by
  intro c s
  obtain ⟨t, ht, hr⟩ := runs c s
  exact ⟨t, ht, hr.pending⟩

end Sys2Proof.Machine
end

section
/-! PROOFS. The client that the Table Engine takes (R143 to R147). -/

namespace Sys2Proof.Machine

variable {s : State}

/-- R145: a port with no request or no free entry has no client. -/
theorem Port.eligible_none {q : Port} (h : q.requests = [] ∨ 4 ≤ q.reserved.length + q.filled.length) :
    q.eligible = none := by
  refine Option.eq_none_iff_forall_ne_some.2 fun f hf => ?_
  obtain ⟨hhead, hroom⟩ := Port.eligible_iff.1 hf
  rcases h with h | h
  · simp [h] at hhead
  · omega

/-- R144: the first port in round-robin order that has a client is the one before which no port has one. -/
theorem findSome_roundRobin {α : Type} {g : PortId → Option α} {pointer p : PortId} {x : α} (h : g p = some x)
    (first : ∀ q : PortId, (q - pointer - 1).val < (p - pointer - 1).val → g q = none) :
    (roundRobin pointer).findSome? g = some x := by
  have split : ∀ pointer p : PortId,
      roundRobin pointer = (roundRobin pointer).take (p - pointer - 1).val
          ++ p :: (roundRobin pointer).drop ((p - pointer - 1).val + 1)
        ∧ ∀ q ∈ (roundRobin pointer).take (p - pointer - 1).val, (q - pointer - 1).val < (p - pointer - 1).val := by
    decide
  obtain ⟨order, before⟩ := split pointer p
  exact List.findSome?_eq_some_iff.2 ⟨_, p, _, order, h, fun q hq => first q (before q hq)⟩

theorem State.client_none_of_phase (h : s.phase ≠ .running) : s.client = none := if_neg h

theorem State.client_none_of_no_request (he : s.events = [])
    (hq : ∀ q : PortId, s.ports[q].requests = [] ∨ 4 ≤ s.ports[q].reserved.length + s.ports[q].filled.length) :
    s.client = none := by
  unfold State.client
  split
  · rw [he]
    exact List.findSome?_eq_none_iff.2 fun q _ => by rw [Port.eligible_none (hq q)]; rfl
  · rfl

theorem State.client_event {e : Event} {rest : List Event} (hp : s.phase = .running) (he : s.events = e :: rest) :
    s.client = some (.event e) := by
  simp [State.client, hp, he]

theorem State.client_request {p : PortId} {f : RequestFrame} (hp : s.phase = .running) (he : s.events = [])
    (hf : s.ports[p].eligible = some f)
    (first : ∀ q : PortId, (q - s.pointer - 1).val < (p - s.pointer - 1).val → s.ports[q].eligible = none) :
    s.client = some (.request p f) := by
  unfold State.client
  rw [if_pos hp, he]
  exact findSome_roundRobin (p := p) (by simp only [hf, Option.map_some]) fun q hq => by
    simp only [first q hq, Option.map_none]

/-- The rows of requests, of events and of reports are apart, and a request row names its port. -/
theorem requestRows_apart :
    ∀ p : PortId, ∀ c ∈ requestRows p, c ∉ eventRows ∧ c ∉ reportRows ∧ ∀ q : PortId, c ∈ requestRows q → q = p := by
  decide

theorem eventRows_apart : ∀ c ∈ eventRows, c ∉ reportRows ∧ ∀ p : PortId, c ∉ requestRows p := by decide

variable {c : Instr} {t : State}

/-- A request row whose request is not in progress changes nothing (log 3). -/
theorem Ran.request_idle {p : PortId} (ran : Ran s c t) (row : c ∈ requestRows p) (h : s.request p = none) :
    t = s := by
  obtain ⟨noEvent, noReport, port⟩ := requestRows_apart p c row
  cases ran with
  | idle => rfl
  | request _ q f u hq item =>
    rw [port q hq, h] at item
    cases item
  | event _ e u erow => exact absurd erow noEvent
  | report _ a u rrow => exact absurd rrow noReport
  | link _ q g linked begun served => cases served <;> simp [requestRows] at row
  | _ => simp [requestRows] at row

/-- An event row changes nothing while no event is in progress (log 3). -/
theorem Ran.event_idle (ran : Ran s c t) (row : c ∈ eventRows) (h : s.event = none) : t = s := by
  obtain ⟨noReport, noRequest⟩ := eventRows_apart c row
  cases ran with
  | idle => rfl
  | request _ q f u hq => exact absurd hq (noRequest q)
  | event _ e u erow item =>
    rw [h] at item
    cases item
  | report _ a u rrow => exact absurd rrow noReport
  | link _ q g linked begun served => cases served <;> simp [eventRows] at row
  | _ => simp [eventRows] at row

/-- Settles O3: the choice of the client by `State.client`, and what every command can come to. -/
theorem engineTakesTheClientOfR143 : Obligations.EngineTakesTheClientOfR143 := by
  refine ⟨fun s h => ?_, fun s e rest hp hi he => ?_, fun s p f hp hi he hf room first => ?_, fun s he hq => ?_,
    fun s => rfl, fun c s p row idle => ?_, fun c s row idle => ?_, fun c s t x hx ht => (exec_ran ht).item hx⟩
  · rcases h with h | h
    · exact State.engaged_idle (State.client_none_of_phase h)
    · exact State.engaged_busy h
  · rw [State.engaged_event hi (State.client_event hp he), State.takeEvent, he]
    rfl
  · rw [State.engaged_request hi (State.client_request hp he (Port.eligible_iff.2 ⟨hf, room⟩)
      fun q hq => Port.eligible_none (first q hq))]
    rfl
  · exact State.engaged_idle (State.client_none_of_no_request he hq)
  · obtain ⟨t, ht, ran⟩ := runs c s
    rw [ht, ran.request_idle row (State.request_none idle)]
  · obtain ⟨t, ht, ran⟩ := runs c s
    rw [ht, ran.event_idle row (State.event_none idle)]

end Sys2Proof.Machine
end

section
/-! SUPPORT. What the shared operations on records come to: the removal of a record, the end of a hold, the end of a
parked claim and the RETIRED replies, each as the state that it leaves. -/

namespace Sys2Proof.Machine

variable {s : State} {i : Slot} {r : Record} {p : PortId} {f : RequestFrame} {w : ParkedClaim}

/-! ### Homes and the removal of a record (R20) -/

/-- R119 for a home. -/
theorem State.dirtyMark_eq (s : State) (h : HomeId) : s.dirtyMark h.group = s.dirtied (some h) := by
  unfold State.dirtyMark State.dirtied
  simp only [Group.dirtied, State.setGroup]
  cases hs : s.groups[h.group].state <;> simp_all

theorem State.vacateHome_eq (s : State) (r : Record) : s.vacateHome r = s.vacated r := by
  unfold State.vacateHome State.vacated
  cases r.home with
  | none => rfl
  | some h =>
    show (s.setHome h (.vacated r.key)).dirtyMark h.group = _
    rw [State.dirtyMark_eq]
    rfl

theorem State.dropWatches_eq (s : State) (w : Vector (Option Interest) 4) :
    s.dropWatches w = { s with
      ports := Vector.ofFn fun q =>
        if w[q].isSome then { s.ports[q] with watchCount := s.ports[q].watchCount - 1 } else s.ports[q] } := by
  simp only [State.dropWatches, State.mapPorts]
  congr 1

/-- The home and the dirty mark look at the Home Map, the groups and the queue alone. -/
theorem State.vacated_index_ports (s : State) (r : Record) (index : List IndexEntry) (ports : Vector Port 4) :
    State.vacated { s with index := index, ports := ports } r =
      { s.vacated r with index := index, ports := ports } := by
  unfold State.vacated
  split <;> rfl

theorem State.vacated_slots (s : State) (r : Record) : (s.vacated r).slots = s.slots := by
  unfold State.vacated State.dirtied
  split <;> rfl

/-- R20. -/
theorem State.remove_eq (h : s.slots[i] = some r) : s.remove i = s.removed i r := by
  simp only [State.remove, h, State.notifyWatchers_eq, State.dropWatches_eq, State.vacateHome_eq]
  rw [State.vacated_index_ports, State.setSlot, State.vacated_slots]
  rfl

/-- The removal of a record reads its key, home, value, generation and watchers alone. -/
theorem State.removed_congr {r' : Record} (hk : r'.key = r.key) (hh : r'.home = r.home) (hv : r'.value = r.value)
    (hg : r'.generation = r.generation) (hw : r'.watchers = r.watchers) (s : State) (i : Slot) :
    s.removed i r' = s.removed i r := by
  simp only [State.removed, State.vacated, removedPorts, hk, hh, hv, hg, hw]

/-- The slot that the removal empties does not matter. -/
theorem State.removed_slots (s : State) (i : Slot) (r : Record) (x : Option Record) :
    State.removed { s with slots := s.slots.set i x } i r = s.removed i r := by
  have hv : State.vacated { s with slots := s.slots.set i x } r = { s.vacated r with slots := s.slots.set i x } := by
    unfold State.vacated State.dirtied
    split <;> rfl
  simp only [State.removed, hv, Vector.set_set]

/-! ### The end of a hold (R55 to R57) -/

/-- A deadline looks at device time, the item, the list, the events and the serial counter alone. -/
theorem State.addDeadline_slots_ports (s : State) (slots : Vector (Option Record) 512) (ports : Vector Port 4)
    (kind : DeadlineKind) (key : Key) (q : PortId) (len : Ticks) :
    State.addDeadline { s with slots := slots, ports := ports } kind key q len =
      { s.addDeadline kind key q len with slots := slots, ports := ports } := by
  have same : State.late { s with slots := slots, ports := ports } len = s.late len := rfl
  cases h : s.late len with
  | true => rw [State.addDeadline_late (same.trans h), State.addDeadline_late h]; rfl
  | false => rw [State.addDeadline_ahead (same.trans h), State.addDeadline_ahead h]; rfl

theorem State.deadlined_slots_ports (s : State) (slots : Vector (Option Record) 512) (ports : Vector Port 4)
    (kind : DeadlineKind) (key : Key) (q : PortId) (len : Ticks) :
    State.deadlined { s with slots := slots, ports := ports } kind key q len =
      { s.deadlined kind key q len with slots := slots, ports := ports } := by
  unfold State.deadlined
  split
  · rfl
  · exact s.addDeadline_slots_ports slots ports kind key q len

theorem State.dropClaim_eq (s : State) (w : ParkedClaim) :
    s.dropClaim w = { s with
      deadlines := without s.deadlines w.wait.serial?
      ports := s.ports.set w.port { s.ports[w.port] with parked := s.ports[w.port].parked - 1 } } := by
  simp [State.dropClaim, State.removeDeadline_eq, State.unpark, State.modifyPort]

theorem State.dropHold_eq (s : State) (i : Slot) (r : Record) :
    s.dropHold i r = { s with
      deadlines := without s.deadlines r.lease
      slots := s.slots.set i (some { r with holder := none, holdCount := 0, lease := none }) } := by
  simp [State.dropHold, State.removeDeadline_eq, State.setSlot]

/-- R55 to R57: a hold that ends is passed on. -/
theorem State.dropHold_handoff (s : State) (i : Slot) (r : Record) :
    (s.dropHold i r).handoff i = s.passedOn i r := by
  obtain ⟨key, state, home, guard, value, floor, ceiling, generation, holder, count, lease, waiters, watchers⟩ := r
  rw [State.dropHold_eq]
  unfold State.handoff State.passedOn
  simp only [Fin.getElem_fin, Vector.getElem_set_self]
  cases waiters with
  | nil =>
    rw [State.notifyHolder_eq (r := ⟨key, state, home, guard, value, floor, ceiling, generation, none, 0, none, [],
      watchers⟩) (by simp)]
    by_cases hs : state = .retiring
    · simp only [if_pos hs]
      rw [State.remove_eq (r := ⟨key, state, home, guard, value, floor, ceiling, generation, none, 0, none, [],
        watchers⟩) (by simp)]
      exact State.removed_congr rfl rfl rfl rfl rfl _ i
    · simp only [if_neg hs]
      rfl
  | cons w rest =>
    dsimp only
    rw [State.dropClaim_eq, State.grant_eq]
    dsimp only
    rw [State.deadlined_slots_ports { s with deadlines := without (without s.deadlines lease) w.wait.serial? }]
    simp only [Vector.set_set]
    rw [State.notifyHolder_eq (r := ⟨key, state, home, guard, value, floor, ceiling, generation, some w.port, 1,
      State.serialFor { s with deadlines := without (without s.deadlines lease) w.wait.serial? } w.leaseAsked, rest,
      watchers⟩) ?_]
    · simp [State.fillGranted, State.fill, State.modifyPort, holderNotice, Port.ended, leaseOf, newLease]
      rfl
    · simp [State.fillGranted, State.fill, State.modifyPort]
      rfl

/-- R55: a hold ends. -/
theorem State.endHold_eq (h : s.slots[i] = some r) : s.endHold i false = s.passedOn i r := by
  simp only [State.endHold, h, Bool.false_eq_true, if_false, State.dropHold_handoff]

/-- R72: a hold ends by its lease, and its holder is told LEASE-LOST. -/
theorem State.endHold_expired (h : s.slots[i] = some r) (hp : r.holder = some p) :
    s.endHold i true = State.passedOn
      { s with
        ports := s.ports.set p (s.ports[p].handNotice
          (.record r.key ⟨false, false, false, false, true⟩ r.value r.generation
            (r.waiters.head?.map ParkedClaim.port))) } i r := by
  rw [← State.dropHold_handoff]
  simp only [State.endHold, h, if_true, State.leaseLost, hp, State.dropHold_eq]
  rfl

/-! ### The end of a parked claim (R52) -/

/-- R52, R13: the lease remaining does not look at the entries of other serials. -/
theorem State.leaseRemaining_without {n : Option Serial} (hn : r.lease = none ∨ r.lease ≠ n) (s : State) :
    State.leaseRemaining { s with deadlines := without s.deadlines n } r = s.leaseRemaining r := by
  unfold State.leaseRemaining
  cases hl : r.lease with
  | none => rfl
  | some m =>
    have other : some m ≠ n := by simpa [hl] using hn
    have found : (without s.deadlines n).find? (fun d => decide (d.serial = m))
        = s.deadlines.find? fun d => decide (d.serial = m) := by
      rw [without, List.find?_filter]
      congr 1
      funext d
      by_cases hd : d.serial = m
      · simp [hd, other]
      · simp [hd]
    simp only [Option.map_some, found]
    rfl

theorem State.leaseRemaining_congr {s t : State} (hd : t.deadlines = s.deadlines) (ht : t.reading = s.reading)
    (r : Record) : t.leaseRemaining r = s.leaseRemaining r := by
  simp only [State.leaseRemaining, hd, ht]

/-- R52: a parked claim leaves its list. -/
theorem State.withdrawClaim_eq (h : s.slots[i] = some r) (w : ParkedClaim) :
    s.withdrawClaim i w = { s with
      slots := s.slots.set i (some { r with waiters := r.waiters.erase w })
      deadlines := without s.deadlines w.wait.serial?
      ports := s.ports.set w.port { s.ports[w.port] with parked := s.ports[w.port].parked - 1 } } := by
  simp only [State.withdrawClaim, h, State.dropClaim_eq, State.setSlot]

/-- R52: a parked claim ends with the hold as it then stands. -/
theorem State.endClaim_eq (h : s.slots[i] = some r) (w : ParkedClaim) (st : Status)
    (hl : r.lease = none ∨ r.lease ≠ w.wait.serial?) :
    s.endClaim i w st = { s with
      slots := s.slots.set i (some { r with waiters := r.waiters.erase w })
      deadlines := without s.deadlines w.wait.serial?
      ports := s.ports.set w.port (s.ports[w.port].ended (claimReply w.tag st
        (.hold ⟨r.holder, r.holdCount, s.leaseRemaining r, (r.waiters.erase w).length⟩))) } := by
  rw [State.endClaim, State.withdrawClaim_eq h]
  have block : State.holdBlock { s with
      slots := s.slots.set i (some { r with waiters := r.waiters.erase w })
      deadlines := without s.deadlines w.wait.serial?
      ports := s.ports.set w.port { s.ports[w.port] with parked := s.ports[w.port].parked - 1 } }
        { r with waiters := r.waiters.erase w } =
      ⟨r.holder, r.holdCount, s.leaseRemaining r, (r.waiters.erase w).length⟩ := by
    rw [← State.leaseRemaining_without hl]
    rfl
  rw [← block]
  simp [State.fillClaim, State.fill, State.modifyPort, Port.ended]

/-! ### The RETIRED replies (R17, R18) -/

theorem withoutWaits_cons (ds : List Deadline) (w : ParkedClaim) (ws : List ParkedClaim) :
    withoutWaits (without ds w.wait.serial?) ws = withoutWaits ds (w :: ws) := by
  simp only [withoutWaits, without, List.filter_filter, List.forall_mem_cons, ← Bool.decide_and, and_comm]

/-- R17, R18: every parked claim of the list has ended with a RETIRED reply. -/
theorem State.answerRetired_eq {ws : List ParkedClaim} (h : (ws.map ParkedClaim.port).Nodup) (s : State)
    (b : HoldBlock) :
    s.answerRetired ws b = { s with
      deadlines := withoutWaits s.deadlines ws
      ports := Vector.ofFn fun q => match ws.find? fun w => decide (w.port = q) with
        | none => s.ports[q]
        | some w => s.ports[q].ended (claimReply w.tag .retired (.hold b)) } := by
  induction ws generalizing s with
  | nil =>
    have same : (Vector.ofFn fun q : Fin 4 => s.ports[q]) = s.ports := by
      ext k hk; simp
    simp [State.answerRetired, withoutWaits, same]
  | cons w rest ih =>
    rw [List.map_cons, List.nodup_cons] at h
    obtain ⟨first, others⟩ := h
    have notLater : rest.find? (fun x => decide (x.port = w.port)) = none :=
      List.find?_eq_none.2 fun x hx => by
        simp only [decide_eq_true_eq]
        exact fun e => first (List.mem_map.2 ⟨x, hx, e⟩)
    have step : (s.dropClaim w).fill w.port (claimReply w.tag .retired (.hold b)) = { s with
        deadlines := without s.deadlines w.wait.serial?
        ports := s.ports.set w.port (s.ports[w.port].ended (claimReply w.tag .retired (.hold b))) } := by
      simp [State.dropClaim_eq, State.fill, State.modifyPort, Port.ended]
    rw [State.answerRetired, step, ih others]
    have ports : (Vector.ofFn fun q : Fin 4 => match rest.find? fun x => decide (x.port = q) with
          | none => (s.ports.set w.port (s.ports[w.port].ended (claimReply w.tag .retired (.hold b))))[q]
          | some x => ((s.ports.set w.port (s.ports[w.port].ended
              (claimReply w.tag .retired (.hold b))))[q]).ended (claimReply x.tag .retired (.hold b)))
        = Vector.ofFn fun q : Fin 4 => match (w :: rest).find? fun x => decide (x.port = q) with
          | none => s.ports[q]
          | some x => s.ports[q].ended (claimReply x.tag .retired (.hold b)) := by
      refine congrArg Vector.ofFn (funext fun q => ?_)
      rw [vector_set_at, List.find?_cons]
      by_cases hq : w.port = q
      · subst hq
        simp [notLater]
      · simp [hq]
    simp only [withoutWaits_cons]
    rw [← ports]

end Sys2Proof.Machine
end

section
/-! PROOFS. The statements on the end of holds and of parked claims (chapters 3 and 4) and on RETIRE (chapter 1). -/

namespace Sys2Proof.Machine

variable {s : State} {p : PortId} {f : RequestFrame} {i : Slot} {r : Record}

/-! ### Claims and removal -/

theorem Record.claimOf_eq_none_iff : r.claimOf p = none ↔ ∀ w ∈ r.waiters, w.port ≠ p := by
  simp [Record.claimOf]

/-- R44: a port has one claim at most parked on a record. -/
theorem Record.claimOf_eq_some (hn : (r.waiters.map ParkedClaim.port).Nodup) {w : ParkedClaim} (hw : w ∈ r.waiters)
    (hp : w.port = p) : r.claimOf p = some w := by
  obtain ⟨x, hx⟩ := Option.isSome_iff_exists.1 (Record.claimOf_isSome_iff.2 ⟨w, hw, hp⟩)
  have hxp : x.port = p := by simpa using List.find?_some hx
  have := List.inj_on_of_nodup_map hn (List.mem_of_find?_eq_some hx) hw (hxp.trans hp.symm)
  rw [hx, this]

theorem withoutWaits_nil (ds : List Deadline) : withoutWaits ds [] = ds := by simp [withoutWaits]

/-! ### RELEASE -/

theorem exec_release_eq (ht : Taken s p f 0x31) (hf : Finds s f.key i r) :
    exec (.release p) s = .next (State.finish
      (if f.byteAt 0 = 0 ∨ f.byteAt 0 = 1 then
        if r.holder = some p then releaseHold p f s i r
        else s.answer p f (answerWith .notHolder (.holderCount r.holder r.holdCount))
      else s.answer p f (plain .badOperand))) := by
  show Host.Outcome.next (serve 0x31 p s (serveRelease p)) = _
  rw [serve_taken ht, serveRelease, withRecord_finds hf rfl rfl]

/-- The holder of the slot after its hold has been passed on. -/
theorem State.passedOn_holderOf (s : State) (i : Slot) (r : Record) :
    (s.passedOn i r).holderOf i = r.waiters.head?.map ParkedClaim.port := by
  unfold State.passedOn State.holderOf
  split
  · simp [*]
  · split <;> simp [State.removed, *]

/-- Settles O44: the option, the holder and the count decide, and a hold that ends is passed on (R53 to R57). -/
theorem releaseLowersOrHandsOn : Obligations.ReleaseLowersOrHandsOn := by
  intro s p f i r ht hf
  obtain ⟨hslot, -⟩ := State.lookup_some hf.2
  rw [exec_release_eq ht hf]
  refine ⟨fun bad => ?_, fun option other => ?_, fun one held many => ?_, fun last held _ _ => ?_⟩
  · have hne : ¬ (f.byteAt 0 = 0 ∨ f.byteAt 0 = 1) := by
      rintro (h | h) <;> simp [h] at bad
    rw [if_neg hne, State.answer_finish]
  · rw [if_pos option, if_neg other, State.answer_finish]
  · have left : countAfter (f.byteAt 0) r.holdCount = r.holdCount - 1 := by simp [countAfter, one]
    have hne : ¬ r.holdCount - 1 = 0 := by omega
    rw [if_pos (.inl one), if_pos held, releaseHold, left]
    simp only [if_neg hne, State.answer_eq, State.setSlot, held]
  · have option : f.byteAt 0 = 0 ∨ f.byteAt 0 = 1 := last.symm.imp And.left id
    have none : countAfter (f.byteAt 0) r.holdCount = 0 := by
      rcases last with h | ⟨h, hc⟩ <;> simp [countAfter, *]
    rw [if_pos option, if_pos held, releaseHold]
    simp only [none, if_true, State.endHold_eq hslot, State.passedOn_holderOf, State.answer_eq]

/-! ### RENEW and CANCEL-WAIT -/

/-- Settles O45: the holder's lease is replaced by way of `State.setLease_eq` (R70, R71). -/
theorem renewReplacesTheLease : Obligations.RenewReplacesTheLease := by
  intro s p f i r ht hf _
  have served : exec (.renew p) s = .next (State.finish
      (if r.holder = some p then
        (s.setLease i r (f.half 0)).answerHeld p f .ok r.holdCount (newLease (f.half 0)) r.waiters.length
      else s.answer p f (answerWith .notHolder (.holderCount r.holder r.holdCount)))) := by
    show Host.Outcome.next (serve 0x32 p s (serveRenew p)) = _
    rw [serve_taken ht, serveRenew, withRecord_finds hf rfl rfl]
  rw [served]
  refine ⟨fun other => ?_, fun held => ?_⟩
  · rw [if_neg other, State.answer_finish]
  · rw [if_pos held, State.setLease_eq held]
    simp [State.answerHeld, State.answer_eq, newLease, leaseOf]

/-- Settles O46: the port's parked claim, if there is one, ends by way of `State.endClaim_eq` (R52, R58). -/
theorem cancelWaitEndsTheClaim : Obligations.CancelWaitEndsTheClaim := by
  intro s p f i r ht hf
  obtain ⟨hslot, -⟩ := State.lookup_some hf.2
  have served : exec (.cancelWait p) s = .next (State.finish (match r.claimOf p with
      | none => s.answer p f (answerWith .notWaiting (.holderWaiters r.holder r.waiters.length))
      | some w => (s.endClaim i w .cancelled).answer p f
          (answerWith .ok (.holderWaiters r.holder (r.waiters.erase w).length)))) :=
    congrArg Host.Outcome.next
      ((serve_taken ht (serveCancelWait p)).trans (congrArg State.finish (withRecord_finds hf rfl rfl _)))
  rw [served]
  refine ⟨fun free => ?_, fun w hw hp sound lease => ?_⟩
  · simp only [Record.claimOf_eq_none_iff.2 free, State.answer_finish]
  · obtain ⟨-, -, -, -, -, single, -⟩ := sound
    simp only [Record.claimOf_eq_some single hw hp, State.endClaim_eq hslot w .cancelled lease, State.answer_eq]
    simp [hp]

/-! ### Expiry events -/

/-- Settles O47: the event is stale unless the hold stands under its serial (R68, R72). -/
theorem leaseExpiryEndsTheHold : Obligations.LeaseExpiryEndsTheHold := by
  intro s key p n he
  have served : exec .leaseExpiry s = .next (s.expireLease key p n).finish := by
    show execLeaseExpiry s = _
    simp only [execLeaseExpiry, State.event_iff.2 he]
  rw [served]
  refine ⟨fun stale => ?_, fun i r found held lease _ _ => ?_⟩
  · cases hl : s.lookup key with
    | none => simp only [State.expireLease, hl]
    | some x =>
      have gone : ¬ (x.2.holder = some p ∧ x.2.lease = some n) := by
        rw [not_and_or]
        exact stale x.1 x.2 hl
      simp only [State.expireLease, hl, if_neg gone]
  · obtain ⟨hslot, -⟩ := State.lookup_some found
    simp only [State.expireLease, found, held, lease, and_self, if_true, State.endHold_expired hslot held]

/-- Settles O48: the event is stale unless the claim stands under its serial (R68, R73). -/
theorem waitExpiryEndsTheClaim : Obligations.WaitExpiryEndsTheClaim := by
  intro s key p n he
  have served : exec .waitExpiry s = .next (s.expireWait key p n).finish := by
    show execWaitExpiry s = _
    simp only [execWaitExpiry, State.event_iff.2 he]
  rw [served]
  refine ⟨fun stale => ?_, fun i r found w hw hp serial sound lease => ?_⟩
  · cases hl : s.lookup key with
    | none => simp only [State.expireWait, hl]
    | some x =>
      cases hc : x.2.claimOf p with
      | none => simp only [State.expireWait, hl, hc]
      | some w =>
        have port : w.port = p := by simpa using List.find?_some hc
        have gone := stale x.1 x.2 hl w (List.mem_of_find?_eq_some hc) port
        simp only [State.expireWait, hl, hc, if_neg gone]
  · obtain ⟨hslot, -⟩ := State.lookup_some found
    obtain ⟨-, -, -, -, -, single, -⟩ := sound
    have other : r.lease = none ∨ r.lease ≠ w.wait.serial? := .inr (serial ▸ lease)
    simp only [State.expireWait, found, Record.claimOf_eq_some single hw hp, serial, if_true,
      State.endClaim_eq hslot w .waitExpired other]
    simp [hp]

/-! ### RETIRE -/

theorem serveRetire_permitted (hf : Finds s f.key i r) (hl : r.state = .live) (hp : Permitted s p r) :
    serveRetire p f s =
      if r.holder = none ∨ r.holder = some p then retireNow p f s i r else retireLater p f s i r := by
  rw [serveRetire, withLiveRecord_finds hf hl rfl rfl, guardRefusal_of_permitted hp]

/-- Settles O32: the lease and the waits go, the waiters are answered and the record is removed (R17, R20). -/
theorem retireRemovesTheRecord : Obligations.RetireRemovesTheRecord := by
  intro s p f i r ht hf hl hp sound own
  obtain ⟨-, -, -, -, -, single, -⟩ := sound
  show Host.Outcome.next (serve 0x13 p s (serveRetire p)) = _
  rw [serve_taken ht, serveRetire_permitted hf hl hp, if_pos own, retireNow, State.removeDeadline_eq]
  dsimp only [State.setSlot]
  rw [State.answerRetired_eq single, State.remove_eq (r := { r with
    holder := none, holdCount := 0, lease := none, waiters := [] }) (by simp)]
  dsimp only
  rw [State.removed_congr (r := r) rfl rfl rfl rfl rfl]
  exact congrArg (fun u : State => Host.Outcome.next (u.answer p f (answerWith .ok (.recState .free))).finish)
    (State.removed_slots { s with
      deadlines := withoutWaits (without s.deadlines r.lease) r.waiters
      ports := retiredPorts s.ports r ⟨none, 0, none, 0⟩ } i r _)

/-- Settles O33: the waiters are answered with the hold as the RETIRE leaves it, and the record is RETIRING (R18). -/
theorem retireDefersToTheHolder : Obligations.RetireDefersToTheHolder := by
  intro s p f i r h ht hf hl hp sound held other
  obtain ⟨-, -, -, -, -, single, -⟩ := sound
  have notOwn : ¬ (r.holder = none ∨ r.holder = some p) := by simp [held, other]
  show Host.Outcome.next (serve 0x13 p s (serveRetire p)) = _
  rw [serve_taken ht, serveRetire_permitted hf hl hp, if_neg notOwn, retireLater]
  dsimp only [State.setSlot]
  rw [State.answerRetired_eq single, State.notifyWatchers_eq, State.answer_eq]
  simp only [State.holdBlock, Record.notice, held, List.length_nil]
  rfl

end Sys2Proof.Machine
end

section
/-! PROOFS. The statements on the requests that look records up or make them, on guards, watches and the gate, and on the
supervision requests that do one thing. -/

namespace Sys2Proof.Machine

variable {s : State} {p : PortId} {f : RequestFrame} {i : Slot} {r : Record} {code : Byte}

/-! ### Refusals that many requests share (R150) -/

/-- A request whose item refuses it is answered and does nothing else. -/
theorem serve_answers {body : RequestFrame → State → State} {a : Answer} (ht : Taken s p f code)
    (h : body f s = s.answer p f a) : serve code p s body = s.answered p f a := by
  rw [serve_taken ht, h, State.answer_finish]

theorem isRecordKey_false {k : Key} (h : k = 0x0000 ∨ k = 0xFFFF) : isRecordKey k = false := by
  rcases h with rfl | rfl <;> rfl

theorem withRecord_badKey (h : f.key = 0x0000 ∨ f.key = 0xFFFF) (body : Slot → Record → State) :
    withRecord p f s body = s.answer p f (plain .badOperand) := by
  simp [withRecord, isRecordKey_false h]

theorem withRecord_absent (h0 : f.key ≠ 0x0000) (hF : f.key ≠ 0xFFFF) (h : s.lookup f.key = none)
    (body : Slot → Record → State) : withRecord p f s body = s.answer p f (plain .noKey) := by
  simp [withRecord, isRecordKey_iff.2 ⟨h0, hF⟩, h]

theorem withLiveRecord_retiring (hf : Finds s f.key i r) (hr : r.state = .retiring) (body : Slot → Record → State) :
    withLiveRecord p f s body = s.answer p f (plain .retiring) := by
  simp [withLiveRecord, withRecord_finds hf rfl rfl, hr]

/-- R7: the guard does not let the port pass. -/
theorem guardRefusal_of_not_permitted (h : ¬ Permitted s p r) :
    guardRefusal r p (s.supervisor p) = some (if r.guard = .holder then .notHolder else .guarded) := by
  rw [not_or, not_or] at h
  obtain ⟨notOpen, notHolder, notSupervisor⟩ := h
  cases hg : r.guard with
  | isOpen => exact absurd hg notOpen
  | holder =>
    have other : r.holder ≠ some p := fun hh => notHolder ⟨hg, hh⟩
    simp [guardRefusal, hg, other]
  | supervisor =>
    have hs : s.supervisor p = false := by simpa [State.supervisor, hg] using notSupervisor
    simp [guardRefusal, hg, hs]
  | fixed => simp [guardRefusal, hg]

/-! ### Key lookups (R6) -/

/-- In a sound index a record is found under its key. -/
theorem IndexSound.lookup_eq (hs : IndexSound s) (hi : s.slots[i] = some r) : s.lookup r.key = some (i, r) := by
  obtain ⟨listed, -⟩ := hs.2.2 i r hi
  have found : s.index.find? (fun e => decide (e.key = r.key)) = some ⟨r.key, i⟩ := by
    cases hf : s.index.find? fun e => decide (e.key = r.key) with
    | none => simpa using List.find?_eq_none.1 hf _ listed
    | some e =>
      rw [key_unique hs.1 (List.mem_of_find?_eq_some hf) listed (by simpa using List.find?_some hf)]
  simp [State.lookup, found, hi]

/-- In a sound index a key that no record has is not found. -/
theorem IndexSound.lookup_eq_none (hs : IndexSound s) {k : Key} (h : ∀ i : Slot, ∀ r ∈ s.slots[i], r.key ≠ k) :
    s.lookup k = none := by
  refine Option.eq_none_iff_forall_ne_some.2 fun ⟨i, r⟩ hx => ?_
  obtain ⟨hslot, e, he, hk, rfl⟩ := State.lookup_some hx
  have key := hs.2.1 e he
  rw [hslot, Option.map_some, Option.some.injEq] at key
  exact h e.slot r hslot (key.trans hk)

/-- R15: the index being in key order, the first entry above a key has the smallest one. -/
theorem IndexSound.recordAbove_eq (hs : IndexSound s) {k : Key} (hi : s.slots[i] = some r) (hk : k < r.key)
    (least : ∀ j : Slot, ∀ r' ∈ s.slots[j], k < r'.key → r.key ≤ r'.key) : s.recordAbove k = some r := by
  obtain ⟨listed, -⟩ := hs.2.2 i r hi
  have found : s.index.find? (fun e => decide (k < e.key)) = some ⟨r.key, i⟩ := by
    obtain ⟨pre, post, split⟩ := List.mem_iff_append.1 listed
    refine List.find?_eq_some_iff_append.2 ⟨by simpa using hk, pre, post, split, fun e he => ?_⟩
    have below : e.key < r.key := by
      have order := hs.1
      rw [split, List.pairwise_append] at order
      exact order.2.2 e he ⟨r.key, i⟩ (by simp)
    have entry := hs.2.1 e (by simp [split, he])
    obtain ⟨r', hr', hkey⟩ := Option.map_eq_some_iff.1 entry
    simp only [Bool.not_eq_true', decide_eq_false_iff_not]
    intro above
    exact absurd (least e.slot r' hr' (hkey ▸ above)) (by rw [hkey]; exact BitVec.not_le.2 below)
  simp only [State.recordAbove, found]
  exact hi

theorem IndexSound.recordAbove_none (hs : IndexSound s) {k : Key} (h : ∀ i : Slot, ∀ r ∈ s.slots[i], r.key ≤ k) :
    s.recordAbove k = none := by
  have found : s.index.find? (fun e => decide (k < e.key)) = none := by
    refine List.find?_eq_none.2 fun e he => ?_
    obtain ⟨r', hr', hkey⟩ := Option.map_eq_some_iff.1 (hs.2.1 e he)
    have := h e.slot r' hr'
    simpa [← hkey] using this
  simp only [State.recordAbove, found]

/-! ### The lease remaining (R13) -/

/-- The one entry of a serial that no other carries. -/
theorem find_serial {ds : List Deadline} {d : Deadline} (hd : d ∈ ds) (hn : (ds.map Deadline.serial).Nodup) :
    ds.find? (fun x => decide (x.serial = d.serial)) = some d := by
  cases hf : ds.find? fun x => decide (x.serial = d.serial) with
  | none => simpa using List.find?_eq_none.1 hf d hd
  | some e =>
    rw [List.inj_on_of_nodup_map hn (List.mem_of_find?_eq_some hf) hd (by simpa using List.find?_some hf)]

theorem reached_iff {now due : Word} : reached now due = true ↔ (now - due).toNat ≤ 65535 := decide_eq_true_iff

/-- R13: a due tick that is not reached is at most 65535 ticks ahead, and so many ticks are left. -/
theorem leaseRemaining_of_running {n : Serial} {d : Deadline} (hl : r.lease = some n) (hd : d ∈ s.deadlines)
    (hn : d.serial = n) (single : (s.deadlines.map Deadline.serial).Nodup) :
    ∃ left : Ticks, s.leaseRemaining r = some left
      ∧ ((s.reading - d.due).toNat ≤ 65535 → left = 0)
      ∧ ((d.due - s.reading).toNat ≤ 65535 → left.toNat = (d.due - s.reading).toNat) := by
  subst hn
  refine ⟨if reached s.reading d.due = true then 0 else (d.due - s.reading).setWidth 16, ?_, fun due => ?_,
    fun ahead => ?_⟩
  · simp only [State.leaseRemaining, hl, Option.map_some, find_serial hd single]
  · rw [if_pos (reached_iff.2 due)]
  · split
    · rename_i due
      have := reached_iff.1 due
      have same : (d.due - s.reading).toNat = 0 := by bv_omega
      simp [same]
    · rw [BitVec.toNat_setWidth]
      omega

/-! ### FIND and NEXT -/

theorem reported_eq (st : RecState) : st.reported = if st = .live then .live else .retiring := by
  cases st <;> rfl

/-- Settles O31: the index finds the record of a key, or the one of the smallest key above it (R13 to R15). -/
theorem findAndNextReport : Obligations.FindAndNextReport := by
  intro s p f hs shown
  have shows (r : Record) : s.snapshotAnswer r = shown r := by
    simp only [State.snapshotAnswer, State.snapshot, State.holdBlock, reported_eq, shown, noFlags]
  refine ⟨fun ht => ⟨fun bad => ?_, fun h0 hF absent => ?_, fun i r hi hk => ?_⟩,
    fun ht => ⟨fun bad => ?_, fun ok above => ?_, fun i r hi hk least => ?_⟩,
    fun r => ⟨fun hl => ?_, fun n hl => ⟨fun d hd hn single => leaseRemaining_of_running hl hd hn single,
      fun gone => ?_⟩⟩⟩
  · exact congrArg Host.Outcome.next (serve_answers ht (withRecord_badKey bad _))
  · exact congrArg Host.Outcome.next (serve_answers ht (withRecord_absent h0 hF (hs.lookup_eq_none absent) _))
  · obtain ⟨-, key⟩ := hs.2.2 i r hi
    have found : Finds s f.key i r := ⟨hk ▸ key, hk ▸ hs.lookup_eq hi⟩
    exact congrArg Host.Outcome.next (serve_answers ht ((withRecord_finds found rfl rfl _).trans (by rw [shows])))
  · exact congrArg Host.Outcome.next (serve_answers ht (if_pos bad))
  · exact congrArg Host.Outcome.next (serve_answers ht ((if_neg ok).trans (by rw [hs.recordAbove_none above])))
  · have ok : f.key ≠ 0xFFFF := by rintro h; rw [h] at hk; bv_omega
    exact congrArg Host.Outcome.next
      (serve_answers ht ((if_neg ok).trans (by rw [hs.recordAbove_eq hi hk least, ← shows])))
  · simp [State.leaseRemaining, hl]
  · have none : s.deadlines.find? (fun d => decide (d.serial = n)) = none :=
      List.find?_eq_none.2 fun d hd => by simpa using gone d hd
    simp [State.leaseRemaining, hl, none]

/-! ### BAD-REQUEST and the refusals of keyed requests -/

/-- Settles O35 (R151). -/
theorem badRequestAnswersBadRequest : Obligations.BadRequestAnswersBadRequest := by
  intro s p f hc unsound
  have hs : ¬ f.sound = true := by simpa [RequestFrame.sound] using unsound
  show execBadRequest p s = _
  simp only [execBadRequest, State.request_iff.2 hc, if_neg hs]
  rfl

section Keyed

variable {c : Instr}

theorem keyed_badKey (h : (c, code) ∈ keyedRows p) (ht : Taken s p f code) (bad : f.key = 0x0000 ∨ f.key = 0xFFFF) :
    exec c s = .next (s.answered p f (plain .badOperand)) := by
  simp only [keyedRows, liveRows, guardedRows, List.mem_append, List.mem_cons, List.not_mem_nil, or_false, or_assoc,
    Prod.mk.injEq] at h
  rcases h with ⟨rfl, rfl⟩ | ⟨rfl, rfl⟩ | ⟨rfl, rfl⟩ | ⟨rfl, rfl⟩ | ⟨rfl, rfl⟩ | ⟨rfl, rfl⟩ | ⟨rfl, rfl⟩ | ⟨rfl, rfl⟩
    | ⟨rfl, rfl⟩ | ⟨rfl, rfl⟩ | ⟨rfl, rfl⟩ | ⟨rfl, rfl⟩ | ⟨rfl, rfl⟩ | ⟨rfl, rfl⟩ | ⟨rfl, rfl⟩ | ⟨rfl, rfl⟩
  all_goals exact congrArg Host.Outcome.next (serve_answers ht (withRecord_badKey bad _))

theorem keyed_absent (h : (c, code) ∈ keyedRows p) (ht : Taken s p f code) (h0 : f.key ≠ 0x0000) (hF : f.key ≠ 0xFFFF)
    (absent : s.lookup f.key = none) : exec c s = .next (s.answered p f (plain .noKey)) := by
  simp only [keyedRows, liveRows, guardedRows, List.mem_append, List.mem_cons, List.not_mem_nil, or_false, or_assoc,
    Prod.mk.injEq] at h
  rcases h with ⟨rfl, rfl⟩ | ⟨rfl, rfl⟩ | ⟨rfl, rfl⟩ | ⟨rfl, rfl⟩ | ⟨rfl, rfl⟩ | ⟨rfl, rfl⟩ | ⟨rfl, rfl⟩ | ⟨rfl, rfl⟩
    | ⟨rfl, rfl⟩ | ⟨rfl, rfl⟩ | ⟨rfl, rfl⟩ | ⟨rfl, rfl⟩ | ⟨rfl, rfl⟩ | ⟨rfl, rfl⟩ | ⟨rfl, rfl⟩ | ⟨rfl, rfl⟩
  all_goals exact congrArg Host.Outcome.next (serve_answers ht (withRecord_absent h0 hF absent _))

theorem live_retiring (h : (c, code) ∈ liveRows p) (ht : Taken s p f code) (hf : Finds s f.key i r)
    (hr : r.state = .retiring) : exec c s = .next (s.answered p f (plain .retiring)) := by
  simp only [liveRows, guardedRows, List.mem_append, List.mem_cons, List.not_mem_nil, or_false, or_assoc,
    Prod.mk.injEq] at h
  rcases h with ⟨rfl, rfl⟩ | ⟨rfl, rfl⟩ | ⟨rfl, rfl⟩ | ⟨rfl, rfl⟩ | ⟨rfl, rfl⟩ | ⟨rfl, rfl⟩ | ⟨rfl, rfl⟩ | ⟨rfl, rfl⟩
    | ⟨rfl, rfl⟩ | ⟨rfl, rfl⟩
  all_goals exact congrArg Host.Outcome.next (serve_answers ht (withLiveRecord_retiring hf hr _))

theorem serveUpdate_refused (hf : Finds s f.key i r) (hl : r.state = .live) {st : Status}
    (hg : guardRefusal r p (s.supervisor p) = some st) (inRange : Bool) (result : Record → UpdateResult) :
    serveUpdate p f inRange result s = s.answer p f (answerWith st (.holder r.holder)) := by
  rw [serveUpdate, withLiveRecord_finds hf hl rfl rfl, hg]

theorem serveRetire_refused (hf : Finds s f.key i r) (hl : r.state = .live) {st : Status}
    (hg : guardRefusal r p (s.supervisor p) = some st) :
    serveRetire p f s = s.answer p f (answerWith st (.holder r.holder)) := by
  rw [serveRetire, withLiveRecord_finds hf hl rfl rfl, hg]

theorem guarded_refused (h : (c, code) ∈ guardedRows p) (ht : Taken s p f code) (hf : Finds s f.key i r)
    (hl : r.state = .live) {st : Status} (hg : guardRefusal r p (s.supervisor p) = some st) :
    exec c s = .next (s.answered p f (answerWith st (.holder r.holder))) := by
  simp only [guardedRows, List.mem_cons, List.not_mem_nil, or_false, Prod.mk.injEq] at h
  rcases h with ⟨rfl, rfl⟩ | h
  · exact congrArg Host.Outcome.next (serve_answers ht (serveRetire_refused hf hl hg))
  · rcases h with ⟨rfl, rfl⟩ | ⟨rfl, rfl⟩ | ⟨rfl, rfl⟩ | ⟨rfl, rfl⟩ | ⟨rfl, rfl⟩ | ⟨rfl, rfl⟩ | ⟨rfl, rfl⟩
    all_goals exact congrArg Host.Outcome.next (serve_answers ht (serveUpdate_refused hf hl hg _ _))

end Keyed

/-- R45: a mode of no meaning. -/
theorem claimMode_none (h : (f.byteAt 0 = 1 ∧ f.half 1 = 0) ∨ 2 < (f.byteAt 0).toNat) : claimMode f = none := by
  rcases h with ⟨one, zero⟩ | big
  · simp [claimMode, one, zero]
  · have h0 : f.byteAt 0 ≠ 0 := by rintro h; simp [h] at big
    have h1 : f.byteAt 0 ≠ 1 := by rintro h; simp [h] at big
    have h2 : f.byteAt 0 ≠ 2 := by rintro h; simp [h] at big
    rw [claimMode, if_neg h0, if_neg h1, if_neg h2]

/-- Settles O40: the checks of R150 in their order, row by row. -/
theorem keyedRequestsRefuseInOrder : Obligations.KeyedRequestsRefuseInOrder := by
  intro s p f c code ht refused
  refine ⟨fun h bad => keyed_badKey h ht bad, fun h h0 hF absent => keyed_absent h ht h0 hF absent, fun i r hf =>
    ⟨fun h hr => live_retiring h ht hf hr, fun h hl no => guarded_refused h ht hf hl (guardRefusal_of_not_permitted no),
      ?_⟩⟩
  rintro rfl rfl hl bad
  refine congrArg Host.Outcome.next (serve_answers ht ?_)
  rw [serveClaim, withLiveRecord_finds hf hl rfl rfl, claimMode_none bad]

end Sys2Proof.Machine
end

section
/-! PROOFS. The statements on CREATE and SET-GUARD (chapter 1). -/

namespace Sys2Proof.Machine

variable {s : State} {p : PortId} {f : RequestFrame} {i : Slot} {r : Record}

/-! ### Privileges and guards -/

theorem State.supervisor_iff : s.supervisor p = true ↔ s.ports[p].privilege = .supervisor := decide_eq_true_iff

theorem State.supervisor_eq_false_iff : s.supervisor p = false ↔ s.ports[p].privilege = .operator := by
  rw [← Bool.not_eq_true, State.supervisor_iff]
  cases s.ports[p].privilege <;> simp

theorem privilegedGuard_iff {x : Byte} : privilegedGuard x = true ↔ x = 2 ∨ x = 3 := by
  simp [privilegedGuard]

/-- R9, R21: the check of a guard that only a SUPERVISOR port may name. -/
theorem privilegedGuard_refused_iff {x : Byte} :
    (privilegedGuard x = true ∧ (!s.supervisor p) = true) ↔
      (x = 2 ∨ x = 3) ∧ s.ports[p].privilege = .operator := by
  rw [privilegedGuard_iff, Bool.not_eq_true', State.supervisor_eq_false_iff]

theorem Guard.ofByte_byte (g : Guard) : Guard.ofByte? g.byte = some g := by
  cases g <;> rfl

/-- R190: no other byte is a guard. -/
theorem Guard.ofByte_none {x : Byte} (h : 3 < x.toNat) : Guard.ofByte? x = none := by
  have ne (k : Byte) (hk : k.toNat ≤ 3) : x ≠ k := by rintro rfl; omega
  rw [Guard.ofByte?, if_neg (ne 0 (by decide)), if_neg (ne 1 (by decide)), if_neg (ne 2 (by decide)),
    if_neg (ne 3 (by decide))]

theorem Guard.ofByte_some {x : Byte} (h : x.toNat ≤ 3) : ∃ g, Guard.ofByte? x = some g := by
  have : x = 0 ∨ x = 1 ∨ x = 2 ∨ x = 3 := by bv_omega
  rcases this with rfl | rfl | rfl | rfl <;> exact ⟨_, rfl⟩

/-! ### The choice of slot and home (R1, R11) -/

theorem State.freeSlot_eq (h : LowestFree s i) : s.freeSlot = some i := by
  obtain ⟨free, lowest⟩ := h
  unfold State.freeSlot
  rw [List.find?_eq_some_iff_getElem]
  refine ⟨by simp [free], i.val, by simp, by simp, fun j hj => ?_⟩
  simpa [Option.isSome_iff_ne_none] using lowest ⟨j, by omega⟩ hj

theorem State.freeSlot_none (h : ∀ i : Slot, s.slots[i] ≠ none) : s.freeSlot = none :=
  List.find?_eq_none.2 fun i _ => by simpa using h i

theorem State.freeSlot_isSome (h : ∃ i : Slot, s.slots[i] = none) : ∃ i, s.freeSlot = some i := by
  obtain ⟨i, hi⟩ := h
  exact Option.isSome_iff_exists.1 (List.find?_isSome.2 ⟨i, by simp, by simp [hi]⟩)

theorem mem_allHomes (h : HomeId) : h ∈ allHomes := by
  simp [allHomes]

/-- R11: `allHomes` lists the homes in their order. -/
theorem allHomes_sorted : allHomes.Pairwise homeBefore := by
  unfold allHomes
  rw [List.pairwise_flatMap]
  refine ⟨fun g _ => ?_, ?_⟩
  · rw [List.pairwise_map]
    exact (List.pairwise_lt_finRange 16).imp fun h => .inr ⟨rfl, h⟩
  · refine (List.pairwise_lt_finRange 16).imp fun h x hx y hy => ?_
    obtain ⟨-, -, rfl⟩ := List.mem_map.1 hx
    obtain ⟨-, -, rfl⟩ := List.mem_map.1 hy
    exact .inl h

/-- R11: the first home of a kind in the order of homes. -/
theorem find_allHomes {q : HomeId → Bool} {h : HomeId} (hq : q h = true)
    (first : ∀ h', homeBefore h' h → q h' = false) : allHomes.find? q = some h := by
  obtain ⟨pre, post, split⟩ := List.mem_iff_append.1 (mem_allHomes h)
  refine List.find?_eq_some_iff_append.2 ⟨hq, pre, post, split, fun h' hh => ?_⟩
  have sorted := allHomes_sorted
  rw [split, List.pairwise_append] at sorted
  simp [first h' (sorted.2.2 h' hh h (by simp))]

theorem State.freeHome_eq {h : HomeId} (hh : Takeable s h) (first : ∀ h', homeBefore h' h → ¬ Takeable s h') :
    s.freeHome = some h :=
  find_allHomes (by simpa [Takeable, and_assoc] using hh) fun h' before => by
    simpa [Takeable, and_assoc] using first h' before

theorem State.vacatedHomeOf_none {k : Key} (h : ∀ h' : HomeId, s.home h' ≠ .vacated k) : s.vacatedHomeOf k = none :=
  List.find?_eq_none.2 fun h' _ => by simpa using h h'

theorem State.chooseHome_eq {k : Key} {h : HomeId} (hh : Chosen s k h) : s.chooseHome k = some h := by
  unfold State.chooseHome
  rcases hh with ⟨vacated, first⟩ | ⟨none, takeable, first⟩
  · have found : s.vacatedHomeOf k = some h :=
      find_allHomes (by simpa using vacated) fun h' before => by simpa using first h' before
    rw [found]
  · rw [State.vacatedHomeOf_none none]
    exact State.freeHome_eq takeable first

theorem State.chooseHome_none {k : Key} (h : ∀ h' : HomeId, s.home h' ≠ .vacated k ∧ ¬ Takeable s h') :
    s.chooseHome k = none := by
  unfold State.chooseHome
  rw [State.vacatedHomeOf_none fun h' => (h h').1]
  exact List.find?_eq_none.2 fun h' _ => by simpa [Takeable, and_assoc] using (h h').2

/-! ### CREATE -/

theorem State.install_dirty_eq (s : State) (i : Slot) (r : Record) :
    (s.install i r).dirtyMarkOf r = { s.dirtied r.home with
      slots := s.slots.set i (some r)
      index := insertIndex ⟨r.key, i⟩ s.index
      homeMap := match r.home with
        | none => s.homeMap
        | some h => s.homeMap.set h.group (s.homeMap[h.group].set h.home (.occupied i)) } := by
  rw [State.dirtyMarkOf_eq]
  unfold State.install
  cases r.home <;> rfl

/-- R10: past the check of privilege. -/
theorem serveCreate_allowed (allowed : ¬ ((f.byteAt 1 = 2 ∨ f.byteAt 1 = 3) ∧ s.ports[p].privilege = .operator)) :
    ¬ (privilegedGuard (createOperands f).guard ∧ !s.supervisor p) := mt privilegedGuard_refused_iff.1 allowed

theorem createIn_finish (p : PortId) (f : RequestFrame) (s : State) (i : Slot) (g : Guard) (h : Option HomeId) :
    (createIn p f s i g h).finish = State.finish
      { s.dirtied h with
        slots := s.slots.set i (some
          { key := f.key, state := .live, home := h, guard := g, value := f.word 10, floor := f.word 2
            ceiling := f.word 6, generation := 0, holder := none, holdCount := 0, lease := none, waiters := []
            watchers := Vector.replicate 4 none })
        index := insertIndex ⟨f.key, i⟩ s.index
        homeMap := match h with
          | none => s.homeMap
          | some h => s.homeMap.set h.group (s.homeMap[h.group].set h.home (.occupied i))
        ports := s.ports.set p (s.ports[p].answered f ⟨.ok, ⟨false, false, false, false⟩, some 0, .home h⟩) } := by
  unfold createIn
  dsimp only
  rw [State.install_dirty_eq, State.answer_eq]
  cases h <;> rfl

theorem createBoundsGood_fields {c : CreateOperands} : createBoundsGood c = true ↔
    (c.durable = 0 ∨ c.durable = 1) ∧ c.floor.toInt ≤ c.ceiling.toInt
      ∧ c.floor.toInt ≤ c.value.toInt ∧ c.value.toInt ≤ c.ceiling.toInt := by
  simp [createBoundsGood, and_assoc]

theorem createBoundsGood_iff : createBoundsGood (createOperands f) = true ↔
    (f.byteAt 0 = 0 ∨ f.byteAt 0 = 1) ∧ (f.word 2).toInt ≤ (f.word 6).toInt
      ∧ (f.word 2).toInt ≤ (f.word 10).toInt ∧ (f.word 10).toInt ≤ (f.word 6).toInt :=
  createBoundsGood_fields

section Absent

variable (allowed : ¬ ((f.byteAt 1 = 2 ∨ f.byteAt 1 = 3) ∧ s.ports[p].privilege = .operator))
  (key : isRecordKey f.key = true) (absent : s.lookup f.key = none)

include allowed key absent

theorem serveCreate_noGuard (hg : Guard.ofByte? (createOperands f).guard = none) :
    serveCreate p f s = s.answer p f (plain .badOperand) := by
  rw [serveCreate, if_neg (serveCreate_allowed allowed)]
  simp [key, absent, hg]

variable {g : Guard} (hg : Guard.ofByte? (createOperands f).guard = some g)

include hg

theorem serveCreate_badBounds (hb : ¬ createBoundsGood (createOperands f) = true) :
    serveCreate p f s = s.answer p f (plain .badOperand) := by
  rw [serveCreate, if_neg (serveCreate_allowed allowed)]
  simp [key, absent, hg, hb]

variable (hb : createBoundsGood (createOperands f) = true)

include hb

theorem serveCreate_full (hi : s.freeSlot = none) : serveCreate p f s = s.answer p f (plain .tableFull) := by
  rw [serveCreate, if_neg (serveCreate_allowed allowed)]
  simp [key, absent, hg, hb, hi]

variable {i : Slot} (hi : s.freeSlot = some i)

include hi

theorem serveCreate_homeless (hd : (createOperands f).durable = 1) (hh : s.chooseHome f.key = none) :
    serveCreate p f s = s.answer p f (plain .storeFull) := by
  rw [serveCreate, if_neg (serveCreate_allowed allowed)]
  simp [key, absent, hg, hb, hi, hd, hh]

theorem serveCreate_durable {h : HomeId} (hd : (createOperands f).durable = 1) (hh : s.chooseHome f.key = some h) :
    serveCreate p f s = createIn p f s i g (some h) := by
  rw [serveCreate, if_neg (serveCreate_allowed allowed)]
  simp [key, absent, hg, hb, hi, hd, hh]

theorem serveCreate_volatile (hd : (createOperands f).durable = 0) :
    serveCreate p f s = createIn p f s i g none := by
  rw [serveCreate, if_neg (serveCreate_allowed allowed)]
  simp [key, absent, hg, hb, hi, hd]

end Absent

/-- Settles O29: slot and home are those that the statement's order names first (R10 to R12). -/
theorem createMakesTheRecord : Obligations.CreateMakesTheRecord := by
  intro s p f i g ht h0 hF absent hg supervisor low high lowest made
  have allowed : ¬ ((f.byteAt 1 = 2 ∨ f.byteAt 1 = 3) ∧ s.ports[p].privilege = .operator) := by
    rintro ⟨named, operator⟩
    have privileged : g = .supervisor ∨ g = .fixed := by
      cases g <;> simp [hg, Guard.byte] at named ⊢
    rw [supervisor privileged] at operator
    cases operator
  have guard : Guard.ofByte? (createOperands f).guard = some g :=
    (congrArg Guard.ofByte? hg).trans (Guard.ofByte_byte g)
  have key : isRecordKey f.key = true := isRecordKey_iff.2 ⟨h0, hF⟩
  have slot := State.freeSlot_eq lowest
  have made_eq (h : Option HomeId) : (createIn p f s i g h).finish = made h := createIn_finish p f s i g h
  refine ⟨fun volatile => ?_, fun h durable chosen => ?_⟩
  · have good := createBoundsGood_iff.2 ⟨.inl volatile, low.trans high, low, high⟩
    exact congrArg Host.Outcome.next ((serve_taken ht (serveCreate p)).trans
      ((congrArg State.finish (serveCreate_volatile allowed key absent guard good slot volatile)).trans (made_eq none)))
  · have good := createBoundsGood_iff.2 ⟨.inr durable, low.trans high, low, high⟩
    exact congrArg Host.Outcome.next ((serve_taken ht (serveCreate p)).trans
      ((congrArg State.finish (serveCreate_durable allowed key absent guard good slot durable
        (State.chooseHome_eq chosen))).trans (made_eq (some h))))

/-- Settles O30: the six checks of R10 in their order. -/
theorem createRefusesInOrder : Obligations.CreateRefusesInOrder := by
  intro s p f ht refused privileged badKey good
  have refuses {a : Answer} (h : serveCreate p f s = s.answer p f a) : refused a :=
    congrArg Host.Outcome.next (serve_answers ht h)
  have record (key : ¬ badKey) : isRecordKey f.key = true := isRecordKey_iff.2 (not_or.1 key)
  refine ⟨fun h => refuses ?_, fun allowed bad => refuses ?_, fun allowed key i r found => refuses ?_,
    fun allowed key absent bad => refuses ?_, fun allowed key absent ok full => refuses ?_,
    fun allowed key absent ok room durable homeless => refuses ?_⟩
  · exact if_pos (privilegedGuard_refused_iff.2 h)
  · refine (if_neg (serveCreate_allowed allowed)).trans (if_pos ?_)
    rw [isRecordKey_false bad]
    rfl
  · rw [serveCreate, if_neg (serveCreate_allowed allowed)]
    simp [record key, found, reported_eq]
  · by_cases small : (f.byteAt 1).toNat ≤ 3
    · obtain ⟨g, hg⟩ := Guard.ofByte_some small
      have hb : ¬ createBoundsGood (createOperands f) = true := fun h => by
        obtain ⟨durable, bounds⟩ := createBoundsGood_iff.1 h
        exact bad ⟨durable, small, bounds⟩
      exact serveCreate_badBounds allowed (record key) absent hg hb
    · exact serveCreate_noGuard allowed (record key) absent (Guard.ofByte_none (not_le.1 small))
  all_goals
    obtain ⟨hd, small, bounds⟩ := ok
    obtain ⟨g, hg⟩ := Guard.ofByte_some small
    have hb := createBoundsGood_iff.2 ⟨hd, bounds⟩
  · exact serveCreate_full allowed (record key) absent hg hb (State.freeSlot_none full)
  · obtain ⟨i, hi⟩ := State.freeSlot_isSome room
    exact serveCreate_homeless allowed (record key) absent hg hb hi durable (State.chooseHome_none homeless)

/-! ### SET-GUARD -/

/-- R22: a guard that changes. -/
theorem State.changeGuard_changed {g : Guard} (h : g ≠ r.guard) (s : State) (i : Slot) :
    s.changeGuard i r g =
      { s.dirtied r.home with
        slots := s.slots.set i (some { r with guard := g, generation := r.generation + 1 })
        ports := handed s.ports r.watchers Interest.value
          (.record r.key ⟨true, false, false, false, false⟩ r.value (r.generation + 1) r.holder) } := by
  simp only [State.changeGuard, if_neg h, State.notifyWatchers_eq, State.dirtyMarkOf_eq]
  exact s.dirtied_slots_ports r.home _ _

theorem setGuardRefusal_supervisor (h : s.ports[p].privilege = .supervisor) :
    setGuardRefusal r p (s.supervisor p) = none := by
  simp [setGuardRefusal, State.supervisor_iff.2 h]

/-- R21: who may set a guard. -/
theorem setGuardRefusal_of_allowed
    (h : s.ports[p].privilege = .supervisor ∨ ((r.guard = .isOpen ∨ r.guard = .holder) ∧ r.holder = some p)
      ∨ (r.guard = .isOpen ∧ r.holder = none)) : setGuardRefusal r p (s.supervisor p) = none := by
  rcases h with hs | ⟨hg | hg, hh⟩ | ⟨hg, hh⟩
  · exact setGuardRefusal_supervisor hs
  all_goals simp [setGuardRefusal, hg, hh]

theorem setGuardRefusal_guarded (ho : s.ports[p].privilege = .operator)
    (h : r.guard = .supervisor ∨ r.guard = .fixed) : setGuardRefusal r p (s.supervisor p) = some .guarded := by
  rcases h with hg | hg <;> simp [setGuardRefusal, State.supervisor_eq_false_iff.2 ho, hg]

theorem setGuardRefusal_notHolder (ho : s.ports[p].privilege = .operator)
    (hg : r.guard = .isOpen ∨ r.guard = .holder) (hh : r.holder ≠ some p)
    (hn : ¬ (r.holder = none ∧ r.guard = .isOpen)) : setGuardRefusal r p (s.supervisor p) = some .notHolder := by
  rcases hg with hg | hg
  · have held : ¬ (r.holder = some p ∨ r.holder = none) := fun h => h.elim hh fun none => hn ⟨none, hg⟩
    simp [setGuardRefusal, State.supervisor_eq_false_iff.2 ho, hg, held]
  · simp [setGuardRefusal, State.supervisor_eq_false_iff.2 ho, hg, hh]

/-- Settles O34: the checks of R21 in their order, and then whether the guard changes (R22). -/
theorem setGuardFollowsItsPermissions : Obligations.SetGuardFollowsItsPermissions := by
  intro s p f ht privileged
  have refuses {a : Answer} (h : serveSetGuard p f s = s.answer p f a) :
      exec (.setGuard p) s = .next (s.answered p f a) := congrArg Host.Outcome.next (serve_answers ht h)
  have deny (allowed : ¬ privileged) : ¬ (privilegedGuard (f.byteAt 0) ∧ !s.supervisor p) :=
    mt privilegedGuard_refused_iff.1 allowed
  refine ⟨fun h => refuses (if_pos (privilegedGuard_refused_iff.2 h)),
    fun allowed bad => refuses ((if_neg (deny allowed)).trans (withRecord_badKey bad _)),
    fun allowed h0 hF absent => refuses ((if_neg (deny allowed)).trans (withRecord_absent h0 hF absent _)),
    fun i r allowed hf hr => refuses ((if_neg (deny allowed)).trans (withLiveRecord_retiring hf hr _)),
    fun i r allowed hf hl => ?_⟩
  have refused {st : Status} (h : setGuardRefusal r p (s.supervisor p) = some st) :
      serveSetGuard p f s = s.answer p f (answerWith st (.holder r.holder)) :=
    (if_neg (deny allowed)).trans ((withLiveRecord_finds hf hl rfl rfl _).trans (by rw [h]))
  refine ⟨fun ho hg => refuses (refused (setGuardRefusal_guarded ho hg)),
    fun ho hg hh hn => refuses (refused (setGuardRefusal_notHolder ho hg hh hn)), fun may =>
    ⟨fun bad => refuses ?_, fun g hg => ?_⟩⟩
  · exact (if_neg (deny allowed)).trans ((withLiveRecord_finds hf hl rfl rfl _).trans
      (by rw [setGuardRefusal_of_allowed may, Guard.ofByte_none bad]))
  · have byte : Guard.ofByte? (f.byteAt 0) = some g := hg ▸ Guard.ofByte_byte g
    have served : serveSetGuard p f s =
        (s.changeGuard i r g).answer p f ⟨.ok, noFlags, some (guardGeneration r g), .guard g⟩ :=
      (if_neg (deny allowed)).trans ((withLiveRecord_finds hf hl rfl rfl _).trans
        (by rw [setGuardRefusal_of_allowed may, byte]))
    have row : exec (.setGuard p) s = .next (serveSetGuard p f s).finish :=
      congrArg Host.Outcome.next (serve_taken ht (serveSetGuard p))
    rw [row, served]
    by_cases same : g = r.guard
    · rw [if_pos same, State.changeGuard, if_pos same, guardGeneration, if_pos same, State.answer_finish, noFlags]
    · rw [if_neg same, State.changeGuard_changed same, guardGeneration, if_neg same, State.answer_eq, noFlags,
        State.changed]

end Sys2Proof.Machine
end

section
/-! PROOFS. The statements on watches and the gate (chapter 5), on CLEAR-FAULT, CENSUS and GROUP-STATUS (chapter 10),
and on SYNC (chapter 7). -/

namespace Sys2Proof.Machine

variable {s : State} {p : PortId} {f : RequestFrame} {i : Slot} {r : Record}

/-! ### WATCH, UNWATCH and GATE -/

theorem Interest.ofByte_none {x : Byte} (h : x = 0 ∨ 8 ≤ x.toNat) : Interest.ofByte? x = none := if_pos h

theorem Interest.ofByte_some {x : Byte} (h : x ≠ 0) (h8 : x.toNat < 8) :
    Interest.ofByte? x = some ⟨x.getLsbD 0, x.getLsbD 1, x.getLsbD 2⟩ := if_neg (not_or.2 ⟨h, not_le.2 h8⟩)

theorem State.setWatch_eq (s : State) (p : PortId) (i : Slot) (r : Record) (x : Interest) (fresh : Bool) :
    s.setWatch p i r x fresh = { s with
      slots := s.slots.set i (some { r with watchers := r.watchers.set p (some x) })
      ports := s.ports.set p { s.ports[p] with
        watchCount := if fresh then s.ports[p].watchCount + 1 else s.ports[p].watchCount } } := by
  cases fresh <;> rfl

theorem State.clearWatch_eq (s : State) (p : PortId) (i : Slot) (r : Record) :
    s.clearWatch p i r = { s with
      slots := s.slots.set i (some { r with watchers := r.watchers.set p none })
      ports := s.ports.set p { s.ports[p] with watchCount := s.ports[p].watchCount - 1 } } := rfl

/-- R147: the reply that a request fills after it has changed its own port. -/
theorem State.answer_own (s : State) (p : PortId) (slots : Vector (Option Record) 512) (q : Port) (f : RequestFrame)
    (a : Answer) :
    State.answer { s with slots := slots, ports := s.ports.set p q } p f a =
      { s with slots := slots, ports := s.ports.set p (q.answered f a) } := by
  rw [State.answer_eq]
  simp

theorem State.setWatch_answer (s : State) (p : PortId) (f : RequestFrame) (i : Slot) (r : Record) (x : Interest)
    (fresh : Bool) {m : Nat} (hm : m = if fresh then s.ports[p].watchCount + 1 else s.ports[p].watchCount) :
    (s.setWatch p i r x fresh).answer p f ((s.setWatch p i r x fresh).watchAnswer p r x) = { s with
      slots := s.slots.set i (some { r with watchers := r.watchers.set p (some x) })
      ports := s.ports.set p (Port.answered { s.ports[p] with watchCount := m } f
        ⟨.ok, noFlags, some r.generation, .watch x r.value r.holder m⟩) } := by
  subst hm
  have count : (s.setWatch p i r x fresh).ports[p].watchCount =
      if fresh then s.ports[p].watchCount + 1 else s.ports[p].watchCount := by
    rw [State.setWatch_eq]; simp
  rw [State.watchAnswer, count, State.setWatch_eq, State.answer_own]

theorem State.clearWatch_answer (s : State) (p : PortId) (f : RequestFrame) (i : Slot) (r : Record) :
    (s.clearWatch p i r).answer p f
        (answerWith .ok (.watchCount (s.clearWatch p i r).ports[p].watchCount)) = { s with
      slots := s.slots.set i (some { r with watchers := r.watchers.set p none })
      ports := s.ports.set p (Port.answered { s.ports[p] with watchCount := s.ports[p].watchCount - 1 } f
        (answerWith .ok (.watchCount (s.ports[p].watchCount - 1)))) } := by
  have count : (s.clearWatch p i r).ports[p].watchCount = s.ports[p].watchCount - 1 := by
    rw [State.clearWatch_eq]; simp
  rw [count, State.clearWatch_eq, State.answer_own]

theorem exec_watch_eq (ht : Taken s p f 0x40) : exec (.watch p) s = .next (serveWatch p f s).finish :=
  congrArg Host.Outcome.next (serve_taken ht (serveWatch p))

theorem exec_unwatch_eq (ht : Taken s p f 0x41) : exec (.unwatch p) s = .next (serveUnwatch p f s).finish :=
  congrArg Host.Outcome.next (serve_taken ht (serveUnwatch p))

/-- Settles O49: the interest byte, the watch that stands and the count decide (R80, R81). -/
theorem watchAndUnwatch : Obligations.WatchAndUnwatch := by
  intro s p f i r hf n
  have watches (hl : r.state = .live) (body : Slot → Record → State) : withLiveRecord p f s body = body i r :=
    withLiveRecord_finds hf hl rfl rfl body
  refine ⟨fun ht => ⟨fun hl bad => ?_, ?_⟩, fun ht => ⟨fun none => ?_, fun watched => ?_⟩⟩
  · rw [exec_watch_eq ht, serveWatch, watches hl, Interest.ofByte_none bad, State.answer_finish]
  · intro hl h0 h8 x served
    rw [exec_watch_eq ht, serveWatch, watches hl, Interest.ofByte_some h0 h8]
    dsimp only
    refine ⟨fun watched => ?_, fun none room => ?_, fun none full => ?_⟩
    · rw [if_pos (Option.isSome_iff_ne_none.2 watched)]
      exact congrArg (fun u => Host.Outcome.next (State.finish u)) (s.setWatch_answer p f i r x false rfl)
    all_goals rw [if_neg (by simp [none])]
    · rw [if_pos (show s.ports[p].watchCount < Config.watchBudget from room)]
      exact congrArg (fun u => Host.Outcome.next (State.finish u)) (s.setWatch_answer p f i r x true rfl)
    · rw [if_neg (show ¬ s.ports[p].watchCount < Config.watchBudget from not_lt.2 full), State.answer_finish]
  · rw [exec_unwatch_eq ht, serveUnwatch, withRecord_finds hf rfl rfl, if_neg (by simp [none]), State.answer_finish]
  · rw [exec_unwatch_eq ht, serveUnwatch, withRecord_finds hf rfl rfl, if_pos (Option.isSome_iff_ne_none.2 watched)]
    exact congrArg (fun u => Host.Outcome.next (State.finish u)) (s.clearWatch_answer p f i r)

theorem Gate.ofByte_byte (g : Gate) : Gate.ofByte? g.byte = some g := by
  cases g <;> rfl

theorem Gate.ofByte_none {x : Byte} (h : 1 < x.toNat) : Gate.ofByte? x = none := by
  have h0 : x ≠ 0 := by rintro rfl; simp at h
  have h1 : x ≠ 1 := by rintro rfl; simp at h
  rw [Gate.ofByte?, if_neg h0, if_neg h1]

/-- R149: a reply whose reserved entry has been freed is discarded. -/
theorem Port.answered_discarded {q : Port} (h : f.tag ∉ q.reserved) (a : Answer) : q.answered f a = q := if_neg h

/-- Settles O50: the gate's byte decides, and the reserved entry whether the gate is set (R93, log 36). -/
theorem gateSetsThePortsGate : Obligations.GateSetsThePortsGate := by
  intro s p f ht
  refine ⟨fun g hg => ?_, fun bad => ?_⟩
  · have byte : Gate.ofByte? (f.byteAt 0) = some g := hg ▸ Gate.ofByte_byte g
    have row : exec (.gate p) s = .next (serveGate p f s).finish :=
      congrArg Host.Outcome.next (serve_taken ht (serveGate p))
    rw [row, serveGate, byte]
    refine ⟨fun reserved => ?_, fun freed => ?_⟩
    · have own : s.modifyPort p (gatedPort f.tag g) =
          { s with slots := s.slots, ports := s.ports.set p { s.ports[p] with gate := g } } := by
        rw [State.modifyPort, gatedPort, if_pos reserved]
      dsimp only
      rw [own, State.answer_own]
    · have same : s.ports.set p s.ports[p] = s.ports := by simp
      simp only [State.modifyPort, gatedPort, if_neg freed, same, State.answer_eq, Port.answered_discarded freed]
  · refine congrArg Host.Outcome.next (serve_answers ht ?_)
    rw [serveGate, Gate.ofByte_none bad]

/-! ### CLEAR-FAULT -/

theorem groupOperand_ofNat (g : GroupId) : groupOperand (BitVec.ofNat 8 g.val) = some g := by
  have h : (BitVec.ofNat 8 g.val).toNat = g.val := by
    rw [BitVec.toNat_ofNat]
    omega
  simp [groupOperand, h]

theorem groupOperand_none {x : Byte} (h : 15 < x.toNat) : groupOperand x = none := dif_neg (by omega)

/-- Settles O53: privilege, operand and the group's state decide (R131, R183). The group is QUEUED with no rewrite
started: its start is the row REWRITE_START (log 15). -/
theorem clearFaultQueuesTheGroup : Obligations.ClearFaultQueuesTheGroup := by
  intro s p f ht
  refine ⟨fun operator => ?_, fun supervisor bad => ?_, fun g supervisor hg => ?_⟩
  · refine congrArg Host.Outcome.next (serve_answers ht (if_pos ?_))
    rw [State.supervisor_eq_false_iff.2 operator]
    rfl
  all_goals
    have may : ¬ (!s.supervisor p) = true := by simp [State.supervisor_iff.2 supervisor]
  · refine congrArg Host.Outcome.next (serve_answers ht ((if_neg may).trans ?_))
    rw [groupOperand_none bad]
  · have row : exec (.clearFault p) s = .next (serveClearFault p f s).finish :=
      congrArg Host.Outcome.next (serve_taken ht (serveClearFault p))
    rw [row, serveClearFault, if_neg may, hg, groupOperand_ofNat]
    refine ⟨fun other => ?_, fun faulted => ?_⟩
    · simp only [if_neg other]
      rfl
    · simp only [if_pos faulted, State.clearFault, State.answerClear, State.answer_eq, State.setGroup]
      simp

/-! ### SYNC -/

theorem exec_sync_eq {h : HomeId} (ht : Taken s p f 0x50) (hf : Finds s f.key i r) (hh : r.home = some h) :
    exec (.sync p) s = .next (syncGroup p f s h).finish := by
  refine congrArg Host.Outcome.next ((serve_taken ht (serveSync p)).trans (congrArg State.finish ?_))
  rw [serveSync, withRecord_finds hf rfl rfl, hh]

theorem GroupState.phase_ne_none {x : GroupState} (h : x.phase? ≠ none) : ∃ ph at', x = .rewriting ph at' := by
  cases x with
  | rewriting ph at' => exact ⟨ph, at', rfl⟩
  | _ => exact absurd rfl h

/-- R136: whether the active erase is to be paused for a promotion. -/
theorem State.suspends_iff : s.suspends = true ↔ ∃ a : GroupId, s.active = some a
    ∧ s.groups[a].state.phase? = some .erasing ∧ (∀ w ∈ s.groups[a].syncs, w.captured = false)
    ∧ s.suspended = none ∧ s.groups[a].suspendCount < 4 := by
  unfold State.suspends
  cases ha : s.active with
  | none => simp
  | some a =>
    dsimp only
    simp only [Option.some.injEq, exists_eq_left']
    generalize s.groups[a] = x
    rcases x with ⟨st⟩
    cases st with
    | rewriting ph at' =>
      cases ph with
      | erasing =>
        simp only [GroupState.phase?, Bool.and_eq_true, and_assoc, true_and, Bool.not_eq_true', List.any_eq_false,
          Option.isNone_iff_eq_none, Bool.not_eq_true]
        exact and_congr_right fun _ => and_congr_right fun _ => decide_eq_true_iff
      | _ => simp [GroupState.phase?]
    | _ => simp [GroupState.phase?]

/-- R134: the state after a SYNC that parks. -/
theorem State.parkSync_eq (s : State) (p : PortId) (f : RequestFrame) (g : GroupId) (c : Bool) :
    s.parkSync p f g c = { s with
      groups := s.groups.set g { s.groups[g] with syncs := s.groups[g].syncs ++ [⟨p, f.tag, f.key, c⟩] }
      ports := s.ports.set p { s.ports[p] with parked := s.ports[p].parked + 1 } } := rfl

/-- R136: whether a pause is ordered does not depend on a SYNC that parks uncaptured in a QUEUED group. -/
theorem State.suspends_parkSync {g : GroupId} (hq : s.groups[g].state = .queued) (p : PortId) (f : RequestFrame)
    (c : Bool) : (s.parkSync p f g c).suspends = s.suspends := by
  have groups (a : GroupId) (h : s.groups[a].state.phase? = some .erasing) :
      (s.parkSync p f g c).groups[a] = s.groups[a] := by
    rw [State.parkSync_eq]
    refine (vector_set_at _ _ _ _).trans (if_neg ?_)
    rintro rfl
    rw [hq] at h
    cases h
  have state (a : GroupId) : (s.parkSync p f g c).groups[a].state = s.groups[a].state := by
    rw [State.parkSync_eq]
    dsimp only
    rw [vector_set_at]
    split
    · subst a; rfl
    · rfl
  rw [Bool.eq_iff_iff, State.suspends_iff, State.suspends_iff]
  refine exists_congr fun a => ?_
  rw [state]
  refine and_congr_right fun _ => and_congr_right fun h => ?_
  rw [groups a h]
  exact Iff.rfl

theorem syncGroup_rewriting {h : HomeId} (hx : s.groups[h.group].state.phase? ≠ none) : syncGroup p f s h =
    if 2 ≤ s.ports[p].parked then s.answerSync p f h .parkLimit
    else s.parkSync p f h.group (!s.groups[h.group].dirtyAgain) := by
  obtain ⟨ph, at', hst⟩ := GroupState.phase_ne_none hx
  rw [syncGroup, hst]
  rfl

theorem syncGroup_queued {h : HomeId} (hx : s.groups[h.group].state = .queued) : syncGroup p f s h =
    if 2 ≤ s.ports[p].parked then s.answerSync p f h .parkLimit
    else (s.parkSync p f h.group false).promote h.group := by
  rw [syncGroup, hx]
  rfl

/-- Settles O51: the group's state, and the port's parked count where the SYNC is to park (R133, R134, R136). -/
theorem syncFollowsTheGroupState : Obligations.SyncFollowsTheGroupState := by
  intro s p f i r ht hf
  refine ⟨fun volatile => ?_, ?_⟩
  · refine congrArg Host.Outcome.next (serve_answers ht ?_)
    rw [serveSync, withRecord_finds hf rfl rfl, volatile]
  · intro h hh x answered parks
    have answers {st : Status} (hst : syncGroup p f s h = s.answerSync p f h st) : answered st := by
      show exec (.sync p) s = _
      rw [exec_sync_eq ht hf hh, hst]
      rfl
    have parked {c : Bool} {u s' : State} (hst : syncGroup p f s h =
        if 2 ≤ s.ports[p].parked then s.answerSync p f h .parkLimit else u)
        (hu : u = { s' with
          groups := s.groups.set h.group { x with syncs := x.syncs ++ [⟨p, f.tag, f.key, c⟩] }
          ports := s.ports.set p { s.ports[p] with parked := s.ports[p].parked + 1 } }) : parks c s' := by
      show if _ then _ else _
      split
      · exact answers (hst.trans (if_pos ‹_›))
      · rw [exec_sync_eq ht hf hh, hst, if_neg ‹_›, hu]
    refine ⟨fun clean => answers ?_, fun faulted => answers ?_, fun worn => answers ?_,
      fun rewriting => parked (syncGroup_rewriting rewriting) (State.parkSync_eq ..),
      fun queued => ⟨s.pauseOrdered || s.suspends, parked (syncGroup_queued queued) ?_, ?_⟩⟩
    · have st : s.groups[h.group].state = .clean := clean
      simp only [syncGroup, st]
    · have st : s.groups[h.group].state = .faulted := faulted
      simp only [syncGroup, st]
    · have st : s.groups[h.group].state = .worn := worn
      simp only [syncGroup, st]
    · rw [State.promote, State.suspends_parkSync queued, State.parkSync_eq]
    · rw [Bool.or_eq_true, State.suspends_iff]

end Sys2Proof.Machine
end

section
/-! PROOFS. The statement on CENSUS and GROUP-STATUS (chapter 10). -/

namespace Sys2Proof.Machine

variable {s : State} {p : PortId} {f : RequestFrame}

/-! ### Counts -/

theorem toList_eq_finRange {α : Type} {n : Nat} (v : Vector α n) : v.toList = (List.finRange n).map fun i => v[i] :=
  List.ext_getElem (by simp) fun k h₁ h₂ => by simp

theorem countP_toList {α : Type} {n : Nat} (v : Vector α n) (q : α → Bool) :
    v.toList.countP q = (List.finRange n).countP fun i => q v[i] := by
  rw [toList_eq_finRange, List.countP_map]
  rfl

/-- Of predicates of which exactly one holds of each element, the counts add up to the length. -/
theorem countP_sum {α : Type} (qs : List (α → Bool)) (one : ∀ x, qs.countP (fun q => q x) = 1) (l : List α) :
    (qs.map fun q => l.countP q).sum = l.length := by
  induction l with
  | nil => simp
  | cons x l ih =>
    have split : (qs.map fun q => (x :: l).countP q).sum = (qs.map fun q => l.countP q).sum + qs.countP fun q => q x := by
      clear one ih
      induction qs with
      | nil => rfl
      | cons q qs ih =>
        simp only [List.map_cons, List.sum_cons, List.countP_cons] at ih ⊢
        omega
    rw [split, ih, one, List.length_cons]

theorem State.countHomes_eq (s : State) (which : Home → Bool) : s.countHomes which =
    ((List.finRange 16).map fun g : GroupId => (List.finRange 16).countP fun h => which (s.home ⟨g, h⟩)).sum := by
  rw [State.countHomes, toList_eq_finRange, List.map_map]
  exact congrArg List.sum (List.map_congr_left fun g _ => countP_toList _ which)

theorem Home.isFree_eq (h : Home) : h.isFree = decide (h = .free) := by
  cases h <;> simp [Home.isFree]

theorem Home.isOccupied_eq (h : Home) : h.isOccupied = h.slot?.isSome := by
  cases h <;> rfl

theorem Home.isVacated_eq (h : Home) : h.isVacated = (decide (h ≠ .free) && h.slot?.isNone) := by
  cases h <;> simp [Home.isVacated, Home.slot?]

theorem State.records_sum (s : State) : s.countRecords .live + s.countRecords .retiring + s.countFreeSlots = 512 := by
  have h := countP_sum [fun x : Option Record => x.any fun r => decide (r.state = .live),
    fun x => x.any fun r => decide (r.state = .retiring), fun x => x.isNone]
    (fun x => by
      cases x with
      | none => rfl
      | some r => cases hr : r.state <;> simp [hr]) s.slots.toList
  simpa [State.countRecords, State.countFreeSlots, Nat.add_assoc] using h

theorem sum_homes (l : List GroupId) (count : (Home → Bool) → GroupId → Nat)
    (each : ∀ g, count Home.isFree g + count Home.isOccupied g + count Home.isVacated g = 16) :
    (l.map (count Home.isFree)).sum + (l.map (count Home.isOccupied)).sum + (l.map (count Home.isVacated)).sum
      = 16 * l.length := by
  induction l with
  | nil => rfl
  | cons g l ih =>
    have := each g
    simp only [List.map_cons, List.sum_cons, List.length_cons]
    omega

theorem State.homes_sum (s : State) :
    s.countHomes Home.isFree + s.countHomes Home.isOccupied + s.countHomes Home.isVacated = 256 := by
  simp only [State.countHomes_eq]
  refine sum_homes (List.finRange 16) (fun which g => (List.finRange 16).countP fun h => which (s.home ⟨g, h⟩))
    fun g => ?_
  have h := countP_sum [fun h : Fin 16 => (s.home ⟨g, h⟩).isFree, fun h => (s.home ⟨g, h⟩).isOccupied,
    fun h => (s.home ⟨g, h⟩).isVacated] (fun h => by cases hh : s.home ⟨g, h⟩ <;>
      simp [hh, Home.isFree, Home.isOccupied, Home.isVacated]) (List.finRange 16)
  simpa [Nat.add_assoc] using h

theorem State.groups_sum (s : State) : s.countGroups (fun x => decide (x = .clean))
    + s.countGroups (fun x => decide (x = .queued)) + s.countGroups GroupState.isRewriting
    + s.countGroups (fun x => decide (x = .faulted)) + s.countGroups (fun x => decide (x = .worn)) = 16 := by
  have h := countP_sum [fun x : Group => decide (x.state = .clean), fun x => decide (x.state = .queued),
    fun x => x.state.isRewriting, fun x => decide (x.state = .faulted), fun x => decide (x.state = .worn)]
    (fun x => by cases hx : x.state <;> simp [hx, GroupState.isRewriting]) s.groups.toList
  simpa [State.countGroups, Nat.add_assoc] using h

/-! ### The reports -/

theorem State.groupHomes_eq (s : State) (g : GroupId) (which : Home → Bool) :
    s.homeMap[g].toList.countP which = (List.finRange 16).countP fun h => which (s.home ⟨g, h⟩) := countP_toList _ which

/-- Settles O54: the figures are counts over the table, the Home Map and the groups (R184, R185). -/
theorem censusAndGroupStatusReport : Obligations.CensusAndGroupStatusReport := by
  intro s p f homes
  refine ⟨fun ht => ⟨s.censusReport, congrArg Host.Outcome.next (serve_answers ht rfl), countP_toList _ _,
      countP_toList _ _, countP_toList _ _, s.records_sum, ?_, ?_, s.homes_sum, rfl, countP_toList _ _,
      countP_toList _ _, countP_toList _ _, countP_toList _ _, s.groups_sum, rfl, rfl, rfl⟩,
    fun ht => ⟨fun bad => ?_, fun g hg => ?_⟩⟩
  · refine (s.countHomes_eq _).trans ?_
    simp only [Home.isFree_eq, homes]
  · refine (s.countHomes_eq _).trans ?_
    simp only [Home.isOccupied_eq, homes]
  · refine congrArg Host.Outcome.next (serve_answers ht ?_)
    rw [serveGroupStatus, groupOperand_none bad]
  · refine congrArg Host.Outcome.next (serve_answers ht ?_)
    rw [serveGroupStatus, hg, groupOperand_ofNat]
    dsimp only [State.groupReport]
    simp only [State.groupHomes_eq, Home.isFree_eq, Home.isOccupied_eq, Home.isVacated_eq, homes]

end Sys2Proof.Machine
end

section
/-! SUPPORT. What an item makes of a port, said once: the moves that the Table Engine makes on a port, and that each
effect of an item is made up of them. -/

namespace Sys2Proof.Machine

/-! ### Notices of one key (R84 to R87) -/

/-- What a notice is about: the key of a record notice; device notices have none. -/
def Notice.subject : Notice → Option Key
  | .record k .. => some k
  | .device .. => none

theorem Notice.sameKey_iff {m n : Notice} : m.sameKey n = true ↔ m.subject = n.subject := by
  cases m <;> cases n <;> simp [Notice.sameKey, Notice.subject]

theorem Notice.sameKey_false_iff {m n : Notice} : m.sameKey n = false ↔ m.subject ≠ n.subject := by
  rw [← Bool.not_eq_true, Notice.sameKey_iff]

theorem Notice.merge_subject (m n : Notice) : (m.merge n).subject = n.subject := by
  cases m <;> cases n <;> rfl

theorem apart_iff {ns : List Notice} :
    ns.Pairwise (fun m n => m.sameKey n = false) ↔ (ns.map Notice.subject).Nodup := by
  simp only [Notice.sameKey_false_iff, List.Nodup, List.pairwise_map]

theorem merged_subjects (ns : List Notice) (n : Notice) :
    (ns.map fun m => if m.sameKey n then m.merge n else m).map Notice.subject = ns.map Notice.subject := by
  rw [List.map_map]
  refine List.map_congr_left fun m _ => ?_
  dsimp only [Function.comp]
  split
  · rw [Notice.merge_subject]
    exact (Notice.sameKey_iff.1 ‹_›).symm
  · rfl

/-! ### Moves of a port -/

/-- What the effects of an item make of a port. -/
inductive PortMove : Port → Port → Prop
  | refl (q : Port) : PortMove q q
  | trans {q r t : Port} : PortMove q r → PortMove r t → PortMove q t
  | handed (q : Port) (n : Notice) : PortMove q (q.handNotice n)
  | filled (q : Port) (r : Reply) : PortMove q (q.fill r)
  | unparked (q : Port) : PortMove q { q with parked := q.parked - 1 }
  | parked (q : Port) (room : q.parked < 2) : PortMove q { q with parked := q.parked + 1 }
  | unwatched (q : Port) : PortMove q { q with watchCount := q.watchCount - 1 }
  | watched (q : Port) (room : q.watchCount < 64) : PortMove q { q with watchCount := q.watchCount + 1 }
  | gated (q : Port) (g : Gate) : PortMove q { q with gate := g }
  | evicted (q : Port) : PortMove q (evictedPort q)

/-- No move reaches the strap, the pin, the requests, the tags in use or the transaction of a port. -/
theorem PortMove.frame {q r : Port} (h : PortMove q r) :
    r.privilege = q.privilege ∧ r.prst = q.prst ∧ r.requests = q.requests ∧ r.tags = q.tags
      ∧ r.transaction = q.transaction ∧ r.lastSubmit = q.lastSubmit ∧ r.sdo = q.sdo := by
  induction h with
  | trans _ _ h₁ h₂ => simp only [h₁, h₂, and_self]
  | handed q n =>
    unfold Port.handNotice
    split
    · simp
    · split <;> simp
  | filled q r => unfold Port.fill; split <;> simp
  | _ => simp [evictedPort]

theorem PortSound.handNotice {q : Port} (h : PortSound q) (n : Notice) : PortSound (q.handNotice n) := by
  obtain ⟨hreq, hent, hnodup, hperm, hcount, hapart, hheld, hfetch, hwatch, hpark⟩ := h
  unfold Port.handNotice
  split
  · exact ⟨hreq, hent, hnodup, hperm, by simpa using hcount,
      by rw [apart_iff, merged_subjects]; exact apart_iff.1 hapart, hheld, hfetch, hwatch, hpark⟩
  · rename_i fresh
    split
    · rename_i room
      refine ⟨hreq, hent, hnodup, hperm, ?_, ?_, hheld, hfetch, hwatch, hpark⟩
      · simp only [Port.noticeCount, Config.noticeDepth] at room
        simp only [List.length_append, List.length_singleton]
        omega
      · rw [List.pairwise_append]
        refine ⟨hapart, List.pairwise_singleton _ _, fun m hm x hx => ?_⟩
        rw [List.mem_singleton.1 hx]
        simpa using (List.any_eq_false.1 (by simpa using fresh)) m hm
    · exact ⟨hreq, hent, hnodup, hperm, hcount, hapart, hheld, hfetch, hwatch, hpark⟩

theorem PortSound.fill {q : Port} (h : PortSound q) (r : Reply) : PortSound (q.fill r) := by
  obtain ⟨hreq, hent, hnodup, hperm, hcount, hapart, hheld, hfetch, hwatch, hpark⟩ := h
  unfold Port.fill
  split
  · rename_i reserved
    refine ⟨hreq, ?_, hnodup, ?_, hcount, hapart, hheld, ?_, hwatch, hpark⟩
    · have pos := List.length_pos_of_mem reserved
      simp only [List.length_erase_of_mem reserved, List.length_append, List.length_singleton]
      omega
    · refine hperm.trans ?_
      unfold Port.outstanding
      simp only [List.map_append, List.map_cons, List.map_nil, ← List.append_assoc]
      have front : q.reserved.Perm (q.reserved.erase r.tag ++ [r.tag]) :=
        (List.perm_cons_erase reserved).trans (List.perm_append_singleton _ _).symm
      calc q.requests.map RequestFrame.tag ++ q.reserved ++ q.filled.map Reply.tag
          |>.Perm (q.requests.map RequestFrame.tag ++ (q.reserved.erase r.tag ++ [r.tag]) ++ q.filled.map Reply.tag) :=
            (front.append_left _).append_right _
        _ |>.Perm (q.requests.map RequestFrame.tag ++ q.reserved.erase r.tag ++ q.filled.map Reply.tag ++ [r.tag]) := by
            simp only [List.append_assoc]
            exact (List.perm_append_comm.append_left _).append_left _
    · intro x hx
      have := hfetch x hx
      rw [List.head?_append, this]
      rfl
  · exact ⟨hreq, hent, hnodup, hperm, hcount, hapart, hheld, hfetch, hwatch, hpark⟩

theorem PortSound.evicted {q : Port} (h : PortSound q) : PortSound (evictedPort q) := by
  obtain ⟨hreq, hent, hnodup, hperm, hcount, hapart, hheld, hfetch, hwatch, hpark⟩ := h
  refine ⟨hreq, hent, hnodup, hperm, ?_, List.Pairwise.nil, ?_, hfetch, Nat.zero_le _, hpark⟩
  · simp only [evictedPort, List.length_nil, Option.isSome_map]
    split <;> omega
  · simpa [evictedPort] using hheld

/-- R43, R79, R86, R89, R146, R157, R165 and R167: every move keeps a port sound. -/
theorem PortMove.sound {q r : Port} (h : PortMove q r) (hq : PortSound q) : PortSound r := by
  induction h with
  | refl => exact hq
  | trans _ _ h₁ h₂ => exact h₂ (h₁ hq)
  | handed q n => exact hq.handNotice n
  | filled q r => exact hq.fill r
  | evicted q => exact hq.evicted
  | unparked | parked | unwatched | watched | gated =>
    obtain ⟨hreq, hent, hnodup, hperm, hcount, hapart, hheld, hfetch, hwatch, hpark⟩ := hq
    refine ⟨hreq, hent, hnodup, hperm, hcount, hapart, hheld, hfetch, ?_, ?_⟩ <;> dsimp only <;> omega

/-! ### Moves of the four ports -/

/-- Each port of `t` comes from that of `s` by moves. -/
def PortsMove (s t : State) : Prop := ∀ q : PortId, PortMove s.ports[q] t.ports[q]

variable {s t u : State} {p : PortId} {f : RequestFrame}

theorem PortsMove.of_ports (h : t.ports = s.ports) : PortsMove s t := fun _ => h ▸ .refl _

theorem PortsMove.refl (s : State) : PortsMove s s := .of_ports rfl

theorem PortsMove.trans (h : PortsMove s t) (h' : PortsMove t u) : PortsMove s u := fun q => .trans (h q) (h' q)

theorem PortsMove.congr (h : PortsMove s t) (hu : u.ports = t.ports) : PortsMove s u := h.trans (.of_ports hu)

theorem PortsMove.set {q : Port} (h : PortMove s.ports[p] q) (ht : t.ports = s.ports.set p q) :
    PortsMove s t := by
  intro j
  rw [ht, vector_set_at]
  split
  · subst j; exact h
  · exact .refl _

theorem PortsMove.modifyPort {g : Port → Port} (h : PortMove s.ports[p] (g s.ports[p])) :
    PortsMove s (s.modifyPort p g) := .set h rfl

theorem PortsMove.mapPorts {g : PortId → Port → Port} (h : ∀ p q, PortMove q (g p q)) :
    PortsMove s (s.mapPorts g)
  | 0 => h 0 _
  | 1 => h 1 _
  | 2 => h 2 _
  | 3 => h 3 _

theorem PortsMove.notifyWatchers (s : State) (w : Vector (Option Interest) 4) (wants : Interest → Bool) (n : Notice) :
    PortsMove s (s.notifyWatchers w wants n) :=
  .mapPorts fun p q => by
    split
    · exact .handed q n
    · exact .refl q

theorem PortsMove.deviceNotice (s : State) (kinds : DeviceKinds) (g : Option GroupId) :
    PortsMove s (s.deviceNotice kinds g) :=
  .mapPorts fun _ q => by
    split
    · exact .handed q _
    · exact .refl q

theorem PortsMove.giveNotice (s : State) (p : PortId) (n : Notice) : PortsMove s (s.giveNotice p n) :=
  .modifyPort (.handed _ n)

theorem PortsMove.fill (s : State) (p : PortId) (r : Reply) : PortsMove s (s.fill p r) := .modifyPort (.filled _ r)

theorem PortsMove.answer (h : PortsMove s t) (p : PortId) (f : RequestFrame) (a : Answer) :
    PortsMove s (t.answer p f a) := h.trans (.fill t p _)

theorem PortsMove.unpark (s : State) (p : PortId) : PortsMove s (s.unpark p) := .modifyPort (.unparked _)

theorem PortsMove.park (h : s.ports[p].parked < 2) : PortsMove s (s.park p) := .modifyPort (.parked _ h)

theorem PortsMove.dropWatches (s : State) (w : Vector (Option Interest) 4) : PortsMove s (s.dropWatches w) :=
  .mapPorts fun p q => by
    split
    · exact .unwatched q
    · exact .refl q

/-! ### Moves of the shared operations on records -/

theorem PortsMove.remove (s : State) (i : Slot) : PortsMove s (s.remove i) := by
  unfold State.remove
  split
  · exact .refl s
  · rename_i r _
    refine PortsMove.congr (t := (s.notifyWatchers r.watchers (fun w => w.life)
      ({ r with holder := none }.notice kindRetired)).dropWatches r.watchers) ?_ (by simp)
    exact (PortsMove.notifyWatchers s _ _ _).trans (.dropWatches _ _)

theorem PortsMove.notifyHolder (s : State) (i : Slot) : PortsMove s (s.notifyHolder i) := by
  unfold State.notifyHolder
  split
  · exact .refl s
  · exact .notifyWatchers s _ _ _

theorem PortsMove.dropClaim (s : State) (w : ParkedClaim) : PortsMove s (s.dropClaim w) :=
  (PortsMove.of_ports (by simp)).trans (.unpark (s.removeDeadline w.wait.serial?) w.port)

theorem PortsMove.handoff (s : State) (i : Slot) : PortsMove s (s.handoff i) := by
  unfold State.handoff
  split
  · exact .refl s
  · split
    · rename_i w rest _
      exact (((PortsMove.dropClaim s w).congr (State.grant_frame ..).2.2.2.2.2.2.2.1).trans (.fill _ _ _)).trans
        (.notifyHolder _ i)
    · split
      · exact (PortsMove.notifyHolder s i).trans (.remove _ i)
      · exact .notifyHolder s i

theorem PortsMove.endHold (s : State) (i : Slot) (expired : Bool) : PortsMove s (s.endHold i expired) := by
  unfold State.endHold
  split
  · exact .refl s
  · rename_i r _
    have dropped : PortsMove s (s.dropHold i r) := .of_ports (by simp)
    split
    · refine dropped.trans (PortsMove.trans ?_ (.handoff _ i))
      unfold State.leaseLost
      split
      · exact .refl _
      · exact .giveNotice _ _ _
    · exact dropped.trans (.handoff _ i)

theorem PortsMove.withdrawClaim (s : State) (i : Slot) (w : ParkedClaim) : PortsMove s (s.withdrawClaim i w) := by
  unfold State.withdrawClaim
  split
  · exact .refl s
  · exact (PortsMove.dropClaim s w).congr (by simp)

theorem PortsMove.endClaim (s : State) (i : Slot) (w : ParkedClaim) (st : Status) :
    PortsMove s (s.endClaim i w st) := by
  refine (PortsMove.withdrawClaim s i w).trans ?_
  unfold State.endClaim State.fillClaim
  split
  · exact .refl _
  · exact .fill _ _ _

theorem PortsMove.answerRetired (s : State) (ws : List ParkedClaim) (b : HoldBlock) :
    PortsMove s (s.answerRetired ws b) := by
  induction ws generalizing s with
  | nil => exact .refl s
  | cons w ws ih => exact ((PortsMove.dropClaim s w).trans (.fill _ _ _)).trans (ih _)

/-! ### Moves of an eviction and of the commit events -/

theorem PortsMove.endHolds (s : State) (slots : List Slot) : PortsMove s (s.endHolds slots) := by
  induction slots generalizing s with
  | nil => exact .refl s
  | cons i slots ih => exact (PortsMove.endHold s i false).trans (ih _)

theorem PortsMove.evictClaims (s : State) (fills : Bool) (cs : List (Slot × ParkedClaim)) :
    PortsMove s (s.evictClaims fills cs) := by
  induction cs generalizing s with
  | nil => exact .refl s
  | cons c cs ih =>
    refine PortsMove.trans ?_ (ih _)
    unfold State.evictClaim
    dsimp only
    split
    · exact (PortsMove.withdrawClaim s _ _).trans (.fill _ _ _)
    · exact .withdrawClaim s _ _

theorem PortsMove.evictSyncs (s : State) (fills : Bool) (p : PortId) (tags : List Tag) :
    PortsMove s (s.evictSyncs fills p tags) := by
  induction tags generalizing s with
  | nil => exact .refl s
  | cons t tags ih =>
    refine PortsMove.trans ?_ (ih _)
    unfold State.evictSync
    dsimp only
    split
    · exact (PortsMove.unpark s p).trans (.fill _ _ _)
    · exact .unpark s p

theorem PortsMove.evict (s : State) (p : PortId) (fills : Bool) : PortsMove s (s.evict p fills) := by
  have claims : PortsMove s ((s.endHolds (s.heldSlots p)).evictClaims fills
      ((s.endHolds (s.heldSlots p)).claimsOf p)) := (PortsMove.endHolds s _).trans (.evictClaims _ fills _)
  have work : PortsMove s (s.evictWork p fills) :=
    (claims.congr (State.withdrawSyncs_frame _ p).2.2.2.2.2.2.2.2.2.2.2.1).trans (.evictSyncs _ fills p _)
  have watches : PortsMove s ((s.evictWork p fills).dropPortWatches p) := work.congr (by simp)
  exact watches.trans (.modifyPort (.evicted _))

theorem PortsMove.fillSyncs (s : State) (g : GroupId) (ws : List ParkedSync) (st : Status) :
    PortsMove s (s.fillSyncs g ws st) := by
  induction ws generalizing s with
  | nil => exact .refl s
  | cons w ws ih =>
    have one : PortsMove s (s.fillSync g w st) := ((PortsMove.unpark s w.port).trans (.fill _ _ _)).congr rfl
    exact one.trans (ih _)

theorem PortsMove.answerSyncs (s : State) (g : GroupId) (which : ParkedSync → Bool) (st : Status) :
    PortsMove s (s.answerSyncs g which st) :=
  (PortsMove.of_ports (by simp)).trans (.fillSyncs (s.setGroup g _) g _ st)

theorem PortsMove.commitGroup (s : State) (g : GroupId) (noted : List (Fin 16)) :
    PortsMove s (s.commitGroup g noted) := by
  have synced : PortsMove s ((s.settleHomes g noted).answerSyncs g ParkedSync.captured .synced) :=
    (PortsMove.of_ports (by simp)).trans (.answerSyncs (s.settleHomes g noted) g _ _)
  refine synced.trans ?_
  unfold State.commitGroup State.settleWorn
  split
  · exact (PortsMove.answerSyncs _ g _ _).trans (.deviceNotice _ _ _)
  · exact .refl _

/-! ### Moves of an item -/

/-- R22, R25: a record changed in place, its watchers told and its group marked dirty. -/
theorem PortsMove.changed (s : State) (i : Slot) (x : Option Record) (w : Vector (Option Interest) 4)
    (wants : Interest → Bool) (n : Notice) (r : Record) :
    PortsMove s (((s.setSlot i x).notifyWatchers w wants n).dirtyMarkOf r) :=
  PortsMove.congr (t := (s.setSlot i x).notifyWatchers w wants n)
    ((PortsMove.of_ports (by simp)).trans (.notifyWatchers _ w wants n)) (by simp)

theorem Served.portsMove (h : Served p f s u) : PortsMove s u := by
  cases h with
  | answered a => exact (PortsMove.refl s).answer p f a
  | created i g h => exact PortsMove.answer (.of_ports (by simp)) p f _
  | retiredNow i r =>
    exact PortsMove.answer (((PortsMove.of_ports (by simp)).trans (.answerRetired _ r.waiters _)).trans (.remove _ i)) p f _
  | retiredLater i r =>
    exact PortsMove.answer (((PortsMove.of_ports (by simp)).trans (.answerRetired _ r.waiters _)).trans
      (.notifyWatchers _ _ _ _)) p f _
  | guarded i r g a =>
    refine PortsMove.answer ?_ p f a
    unfold State.changeGuard
    split
    · exact .refl s
    · exact PortsMove.changed s i _ _ _ _ r
  | updated i r v a =>
    refine PortsMove.answer ?_ p f a
    unfold State.leaveValue
    split
    · exact .refl s
    · exact PortsMove.changed s i _ _ _ _ r
  | granted i r len a => exact PortsMove.answer ((PortsMove.of_ports (by simp)).trans (.notifyHolder _ i)) p f a
  | raised i r len a => exact PortsMove.answer (.of_ports (by simp)) p f a
  | parked i r h mode found live held other first room =>
    exact (PortsMove.of_ports (by simp)).trans (PortsMove.park (by simpa using room))
  | lowered i r n a => exact PortsMove.answer (.of_ports (by simp)) p f a
  | released i r a => exact (PortsMove.endHold s i false).answer p f a
  | renewed i r len a => exact PortsMove.answer (.of_ports (by simp)) p f a
  | cancelled i r w a => exact (PortsMove.endClaim s i w _).answer p f a
  | rewatched i r x a => exact PortsMove.answer (.set (.refl s.ports[p]) (by rw [State.setWatch_eq]; rfl)) p f a
  | watched i r x a found live wants fresh room =>
    exact PortsMove.answer (.set (.watched _ room) (by rw [State.setWatch_eq]; rfl)) p f a
  | unwatched i r a => exact PortsMove.answer (.set (.unwatched _) rfl) p f a
  | gated g a =>
    refine PortsMove.answer (.modifyPort ?_) p f a
    unfold gatedPort
    split
    · exact .gated _ g
    · exact .refl _
  | synced g ph at' busy room => exact .set (.parked _ room) rfl
  | promoted g queued room => exact .set (.parked _ room) rfl
  | evicted v a => exact (PortsMove.evict s v true).answer p f a
  | cleared g a => exact PortsMove.answer (.of_ports (by simp)) p f a

theorem Handled.portsMove {e : Event} (h : Handled s e u) : PortsMove s u := by
  cases h with
  | discarded => exact .refl s
  | leaseExpired key p n i => exact .endHold s i true
  | waitExpired key p n i r w => exact .endClaim s i w _
  | evicted p => exact .evict s p false
  | captured => exact .of_ports rfl
  | committed g noted => exact .commitGroup s g noted
  | faulted g => exact (PortsMove.answerSyncs s g _ _).trans (.deviceNotice _ _ _)

end Sys2Proof.Machine
end

section
/-! PROOFS. Device time, banks and privileges over every command (O5), and the ports and the Table Engine (O10). -/

namespace Sys2Proof.Machine

variable {s t u : State} {p : PortId} {c : Instr}

/-! ### What taking a client makes of a port -/

/-- R147: a port whose head request is taken. -/
def takenPort (f : RequestFrame) (q : Port) : Port :=
  { q with requests := q.requests.tail, reserved := q.reserved ++ [f.tag] }

theorem State.engaged_port (s : State) (q : PortId) : s.engaged.ports[q] = s.ports[q]
    ∨ ∃ f, s.ports[q].eligible = some f ∧ s.engaged.ports[q] = takenPort f s.ports[q] := by
  unfold State.engaged
  split
  · exact .inl rfl
  · split
    · exact .inl rfl
    · exact .inl rfl
    · rename_i p f hc
      rw [State.takeRequest_ports, vector_set_at]
      split
      · subst p
        exact .inr ⟨f, State.client_eligible hc, rfl⟩
      · exact .inl rfl

/-! ### Privileges (R172) -/

/-- The straps as sampled are the same. -/
def SameStraps (s t : State) : Prop := ∀ q : PortId, t.ports[q].privilege = s.ports[q].privilege

theorem SameStraps.of_ports (h : t.ports = s.ports) : SameStraps s t := fun q => by rw [h]

theorem SameStraps.trans (h : SameStraps s t) (h' : SameStraps t u) : SameStraps s u := fun q => (h' q).trans (h q)

theorem SameStraps.modifyPort {g : Port → Port} (h : ∀ q, (g q).privilege = q.privilege) :
    SameStraps s (s.modifyPort p g) := by
  intro q
  rw [State.modifyPort_ports, vector_set_at]
  split
  · subst q; exact h _
  · rfl

theorem PortsMove.sameStraps (h : PortsMove s t) : SameStraps s t := fun q => (h q).frame.1

theorem SameStraps.engaged (s : State) : SameStraps s s.engaged := by
  intro q
  obtain h | ⟨f, _, h⟩ := s.engaged_port q <;> rw [h]
  rfl

theorem SameStraps.finish (s : State) : SameStraps s s.finish := .engaged { s with item := none }

theorem SameStraps.raiseAll (s : State) (es : List Event) : SameStraps s (s.raiseAll es) :=
  .engaged { s with events := s.events ++ es }

theorem SameStraps.raise (s : State) (e : Event) : SameStraps s (s.raise e) := .raiseAll s [e]

theorem SameStraps.startHead (s : State) : SameStraps s s.startHead := by
  unfold State.startHead
  split
  · exact .of_ports rfl
  · exact .trans (.of_ports rfl) (.raise _ _)

theorem State.resume_ports (s : State) (g : GroupId) : (s.resume g).ports = s.ports := by
  unfold State.resume
  split <;> rfl

theorem SameStraps.startWork (s : State) : SameStraps s s.startWork := by
  unfold State.startWork
  split
  · exact .of_ports rfl
  · split
    · exact .of_ports rfl
    · split
      · exact .of_ports (s.resume_ports _)
      · exact .startHead s

theorem SameStraps.switch (s : State) (g : GroupId) (cap : Vector CapturedHome 16) : SameStraps s (s.switch g cap) := by
  refine SameStraps.trans (SameStraps.trans ?_ (.raise _ _)) (.startWork _)
  exact .of_ports rfl

theorem SameStraps.fault (s : State) (g : GroupId) : SameStraps s (s.fault g) := by
  refine SameStraps.trans (SameStraps.trans ?_ (.raise _ _)) (.startWork _)
  exact .of_ports rfl

theorem SameStraps.rewriteFails (s : State) (g : GroupId) (at' : Attempt) : SameStraps s (s.rewriteFails g at') := by
  unfold State.rewriteFails
  split
  · split <;> exact .of_ports rfl
  · exact .trans (.of_ports rfl) (.fault { s with pauseOrdered := false } g)

theorem Reported.sameStraps {a : ActiveRewrite} (h : Reported s a u) : SameStraps s u := by
  cases h with
  | erased => exact .of_ports rfl
  | suspended => exact .of_ports rfl
  | paused => exact .trans (.of_ports rfl) (.startHead (s.suspendActive a))
  | programmed => exact .of_ports rfl
  | switched => exact .trans (.of_ports rfl) (.switch (s.setSpare a.group _) _ _)
  | failed ph m => exact .trans (.of_ports rfl) (.rewriteFails { s.setSpare a.group _ with fresh := s.fresh + 1 } _ _)

theorem submitPort_privilege (ready : Bool) (bytes : List Byte) (q : Port) :
    (submitPort ready bytes q).privilege = q.privilege := by
  unfold submitPort
  split <;> rfl

theorem fetchReleasePort_privilege (n : Nat) (q : Port) : (fetchReleasePort n q).privilege = q.privilege := by
  unfold fetchReleasePort
  split
  · split <;> rfl
  all_goals rfl

theorem fetchNoticeReleasePort_privilege (n : Nat) (q : Port) :
    (fetchNoticeReleasePort n q).privilege = q.privilege := by
  unfold fetchNoticeReleasePort
  split
  · split
    · rfl
    · split <;> rfl
  · split <;> rfl
  all_goals rfl

theorem fetchNoticePort_privilege (q : Port) : (fetchNoticePort q).privilege = q.privilege := by
  unfold fetchNoticePort
  split <;> rfl

theorem LinkServed.privilege {g : Port → Port} (h : LinkServed s c p g) (q : Port) : (g q).privilege = q.privilege := by
  cases h with
  | noticeFetched => exact fetchNoticePort_privilege q
  | _ => rfl

theorem SameStraps.inBegun {g : Port → Port} (h : ∀ q, (g q).privilege = q.privilege) :
    SameStraps s (s.inBegun p g) := by
  unfold State.inBegun
  split
  · exact .modifyPort h
  · exact .of_ports rfl

theorem SameStraps.raiseEviction (s : State) (p : PortId) : SameStraps s (s.raiseEviction p) := by
  unfold State.raiseEviction
  split
  · split
    · exact .of_ports rfl
    · exact .raise s _
  · exact .of_ports rfl

theorem PortsMove.restoreLostNotices (s : State) (gs : List GroupId) : PortsMove s (s.restoreLostNotices gs) := by
  induction gs generalizing s with
  | nil => exact .refl s
  | cons g gs ih =>
    refine PortsMove.trans ?_ (ih _)
    unfold State.restoreLostNotice
    split
    · exact .deviceNotice s _ _
    · exact .refl s

theorem PortsMove.powerWarnSeen (s : State) : PortsMove s s.powerWarnSeen := by
  unfold State.powerWarnSeen
  split
  · exact .deviceNotice s _ _
  · exact .refl s

theorem blankPorts_at (s : State) (ph : RunState) (q : PortId) :
    (s.cleared ph).ports[q] = blankPort s.ports[q].prst s.ports[q].privilege := by
  fin_cases q <;> rfl

theorem sampleStraps_at (s : State) (v0 v1 v2 v3 : Privilege) (q : PortId) :
    (s.sampleStraps v0 v1 v2 v3).ports[q] = { s.ports[q] with privilege := #v[v0, v1, v2, v3][q] } := by
  fin_cases q <;> rfl

/-- R172: a privilege changes only where a restore samples the straps. -/
theorem Ran.sameStraps (h : Ran s c t) : SameStraps s t ∨ ∃ v0 v1 v2 v3, c = .restore v0 v1 v2 v3
    ∧ ∀ q : PortId, t.ports[q].privilege = #v[v0, v1, v2, v3][q] := by
  cases h with
  | restored v0 v1 v2 v3 =>
    refine .inr ⟨v0, v1, v2, v3, rfl, fun q => ?_⟩
    have ports : ((s.beginRestore.sampleStraps v0 v1 v2 v3).restoreGroups (List.finRange 16)).ports =
        (s.beginRestore.sampleStraps v0 v1 v2 v3).ports := by simp
    rw [ports, sampleStraps_at]
  | idle => exact .inl (.of_ports rfl)
  | request _ p f u row item served => exact .inl (served.portsMove.sameStraps.trans (.finish u))
  | event _ e u row item handled => exact .inl (handled.portsMove.sameStraps.trans (.finish u))
  | reset => exact .inl fun q => by rw [blankPorts_at]; simp [blankPort]
  | powerLost => exact .inl fun q => by rw [blankPorts_at]; simp [blankPort]
  | restoreEnded =>
    have told := ((PortsMove.restoreLostNotices s (List.finRange 16)).trans (.powerWarnSeen _)).sameStraps
    generalize (s.restoreLostNotices (List.finRange 16)).powerWarnSeen = x at told ⊢
    exact .inl (told.trans (.engaged { x with phase := .running, pfwSeen := false }))
  | portReset p => exact .inl (.trans (t := s.modifyPort p prstPort) (.modifyPort fun _ => rfl) (.raiseEviction _ p))
  | portReleased p => exact .inl (.modifyPort fun _ => rfl)
  | pfwServing =>
    refine .inl (SameStraps.trans ?_ (PortsMove.deviceNotice _ kindPowerWarn none).sameStraps)
    exact .of_ports (by simp)
  | pfwEarly => exact .inl (.of_ports rfl)
  | pfwReleased => exact .inl (.of_ports rfl)
  | ticked =>
    have fallen : SameStraps s s.fallAllDue := by
      refine SameStraps.trans ?_ (.raiseAll _ _)
      exact .of_ports rfl
    exact .inl (fallen.trans (.of_ports (by simp)))
  | fellDue =>
    unfold State.fallDue
    split
    · exact .inl (.of_ports rfl)
    · split
      · refine .inl (SameStraps.trans ?_ (.raise _ _))
        exact .of_ports rfl
      · exact .inl (.of_ports rfl)
  | begun p => exact .inl (.modifyPort fun _ => rfl)
  | submitted p bytes => exact .inl (.trans (.inBegun (submitPort_privilege _ _)) (.engaged _))
  | fetchReleased p n => exact .inl (.trans (.modifyPort (fetchReleasePort_privilege n)) (.engaged _))
  | noticeReleased p n => exact .inl (.modifyPort (fetchNoticeReleasePort_privilege n))
  | link _ p g linked begun served => exact .inl (.modifyPort served.privilege)
  | started => exact .inl (.startWork s)
  | report _ a u row reported => exact .inl reported.sameStraps

/-! ### Device time and current banks (R63, R107) -/

theorem Ran.time (h : Ran s c t) : t.time = s.time ∨ (c = .tick ∧ t.time = s.time + 1)
    ∨ ((c = .deviceReset ∨ c = .lossOfPower) ∧ t.time = 0) := by
  cases h with
  | idle => exact .inl rfl
  | request _ p f u row item served => exact .inl (by simp [served.frame])
  | event _ e u row item handled => exact .inl (by simp [handled.frame])
  | reset => exact .inr (.inr ⟨.inl rfl, rfl⟩)
  | powerLost => exact .inr (.inr ⟨.inr rfl, rfl⟩)
  | ticked => exact .inr (.inl ⟨rfl, rfl⟩)
  | report _ a u row reported => exact .inl reported.frame.2.2.2.2.2.1
  | _ => exact .inl (by simp)

/-- R107: the current banks hold what they held. -/
def CurrentKept (s t : State) : Prop :=
  ∀ (g : GroupId) (which : BankId), s.groups[g].current = some which → t.bank g which = s.bank g which

theorem CurrentKept.of_banks (h : t.banks = s.banks) : CurrentKept s t := fun g which _ => by
  rw [State.bank, State.bank, h]

theorem spareOf_ne {which : BankId} : spareOf (some which) ≠ which := by cases which <;> decide

theorem Banks.get_put (x : Banks) (w w' : BankId) (m : Memory) :
    (x.put w m).get w' = if w' = w then m else x.get w' := by
  cases w <;> cases w' <;> rfl

theorem State.setSpare_bank (s : State) (g g' : GroupId) (m : Memory) (which : BankId) :
    (s.setSpare g m).bank g' which =
      if g' = g ∧ which = spareOf s.groups[g].current then m else s.bank g' which := by
  rw [State.bank, State.setSpare_banks, vector_set_at]
  by_cases h : g = g'
  · subst g'
    simp [Banks.get_put, State.bank]
  · simp [h, Ne.symm h, State.bank]

theorem CurrentKept.setSpare (s : State) (g : GroupId) (m : Memory) : CurrentKept s (s.setSpare g m) := by
  intro g' which h
  rw [State.setSpare_bank, if_neg]
  rintro ⟨rfl, hw⟩
  exact spareOf_ne (h ▸ hw.symm)

theorem CurrentKept.cutOff (s : State) (g : GroupId) : CurrentKept s (s.cutOff g) := by
  unfold State.cutOff
  split
  case h_1 | h_2 | h_3 | h_4 => exact CurrentKept.setSpare s g _
  all_goals exact .of_banks rfl

theorem CurrentKept.cutOffRewrite (s : State) (g : Option GroupId) : CurrentKept s (s.cutOffRewrite g) := by
  unfold State.cutOffRewrite
  split
  · exact .of_banks rfl
  · exact .cutOff s _

theorem CurrentKept.trans (h : CurrentKept s t) (hg : ∀ g : GroupId, t.groups[g].current = s.groups[g].current)
    (h' : CurrentKept t u) : CurrentKept s u := fun g which hc =>
  (h' g which ((hg g).trans hc)).trans (h g which hc)

theorem CurrentKept.congr (h : CurrentKept s t) (hu : u.banks = t.banks) : CurrentKept s u := fun g which hc => by
  rw [← h g which hc, State.bank, State.bank, hu]

theorem CurrentKept.cutOffRewrites (s : State) : CurrentKept s s.cutOffRewrites :=
  (CurrentKept.cutOffRewrite s s.active).trans (fun g => by simp) (.cutOffRewrite _ _)

theorem Reported.currentKept {a : ActiveRewrite} (h : Reported s a u) : CurrentKept s u := by
  cases h with
  | erased => exact CurrentKept.setSpare s a.group _
  | suspended => exact .of_banks rfl
  | paused => exact .of_banks (by simp)
  | programmed => exact CurrentKept.setSpare s a.group _
  | switched => exact (CurrentKept.setSpare s a.group ((s.spareBank a.group).writeBytes 297 commitMark)).congr (by simp)
  | failed ph m => exact (CurrentKept.setSpare s a.group (failedBank a.attempt m)).congr (by simp [State.failsLeaving])

theorem State.abandonSuspended_current (s : State) (g : GroupId) :
    s.abandonSuspended.groups[g].current = s.groups[g].current := by
  unfold State.abandonSuspended
  split
  · rfl
  · rename_i g' _
    show ((s.cutOff g').groups.set g' _)[g].current = _
    rw [vector_set_at]
    split
    · subst g; simp
    · simp

theorem CurrentKept.abandonSuspended (s : State) : CurrentKept s s.abandonSuspended := by
  unfold State.abandonSuspended
  split
  · exact .of_banks rfl
  · rename_i g _
    exact (CurrentKept.cutOff s g).congr (by simp)

theorem CurrentKept.abandonActive (s : State) : CurrentKept s s.abandonActive := by
  unfold State.abandonActive
  split
  · exact .of_banks rfl
  · rename_i g _
    split
    case h_2 => exact (CurrentKept.cutOff s g).congr (by simp)
    all_goals exact .of_banks rfl

theorem Ran.currentKept (h : Ran s c t) : CurrentKept s t := by
  cases h with
  | idle => exact .of_banks rfl
  | request _ p f u row item served => exact .of_banks (by simp [served.frame])
  | event _ e u row item handled => exact .of_banks (by simp [handled.frame])
  | reset => exact (CurrentKept.cutOffRewrites s).congr rfl
  | powerLost => exact (CurrentKept.cutOffRewrites s).congr rfl
  | pfwServing =>
    have suspended : CurrentKept s (State.abandonSuspended { s with pfw := true }) :=
      .abandonSuspended { s with pfw := true }
    have both := suspended.trans (State.abandonSuspended_current _) (.abandonActive _)
    exact both.congr (by simp)
  | report _ a u row reported => exact reported.currentKept
  | _ => exact .of_banks (by simp)

/-- Settles O5: time, banks and straps over the cases of a command. -/
theorem timeBanksAndPrivilegesMoveOnlyAsSaid : Obligations.TimeBanksAndPrivilegesMoveOnlyAsSaid := by
  intro c s t h
  have ran := exec_ran h
  refine ⟨ran.time, ran.currentKept, fun q => ?_⟩
  obtain same | ⟨v0, v1, v2, v3, hc, sampled⟩ := ran.sameStraps
  · exact .inl (same q)
  · exact .inr ⟨fun q => #v[v0, v1, v2, v3][q], hc, sampled q⟩

end Sys2Proof.Machine
end

section
/-! PROOFS. Every step keeps the ports and the Table Engine sound (O10). -/

namespace Sys2Proof.Machine

variable {s t u : State} {p : PortId} {c : Instr}

/-! ### The Table Engine (R141, R143, R145) -/

theorem mem_roundRobin : ∀ pointer p : PortId, p ∈ roundRobin pointer := by decide

theorem Port.eligible_eq_none {q : Port} (h : q.eligible = none) :
    q.requests = [] ∨ 4 ≤ q.reserved.length + q.filled.length := by
  unfold Port.eligible at h
  split at h
  · rename_i free
    simp only [Port.freeEntries, Config.replyEntries] at free
    exact .inr (by omega)
  · exact .inl (List.head?_eq_none_iff.1 h)

/-- R143: a serving engine that has no client has no event and no eligible request before it. -/
theorem State.client_none (hp : s.phase = .running) (h : s.client = none) : s.events = [] ∧ ∀ p : PortId,
    s.ports[p].requests = [] ∨ 4 ≤ s.ports[p].reserved.length + s.ports[p].filled.length := by
  unfold State.client at h
  rw [if_pos hp] at h
  split at h
  · cases h
  · rename_i events
    refine ⟨events, fun p => Port.eligible_eq_none ?_⟩
    simpa using List.findSome?_eq_none_iff.1 h p (mem_roundRobin _ p)

theorem EngineSound.engaged (h : s.item ≠ none → s.phase = .running) : EngineSound s.engaged := by
  refine ⟨fun hi => ?_, fun hp hi => ?_⟩
  · rw [s.engaged_frame.2.1]
    by_cases item : s.item = none
    · refine of_not_not fun off => hi ?_
      rw [State.engaged_idle (State.client_none_of_phase off), item]
    · exact h item
  · rw [s.engaged_frame.2.1] at hp
    by_cases item : s.item = none
    · cases hc : s.client with
      | none => rw [State.engaged_idle hc]; exact State.client_none hp hc
      | some x =>
        cases x with
        | event e => rw [State.engaged_event item hc] at hi; cases hi
        | request p f => rw [State.engaged_request item hc] at hi; cases hi
    · rw [State.engaged_busy item] at hi
      exact absurd hi item

/-- What the engine's soundness reads of a state. -/
theorem EngineSound.congr (h : EngineSound s) (hi : t.item = s.item) (hp : t.phase = s.phase)
    (he : t.events = s.events) (hq : ∀ p : PortId, t.ports[p].requests = s.ports[p].requests
      ∧ t.ports[p].reserved.length + t.ports[p].filled.length = s.ports[p].reserved.length + s.ports[p].filled.length) :
    EngineSound t := by
  obtain ⟨hitem, hfree⟩ := h
  refine ⟨by rwa [hi, hp], fun run idle => ?_⟩
  rw [hp] at run
  rw [hi] at idle
  rw [he]
  refine ⟨(hfree run idle).1, fun p => ?_⟩
  rw [(hq p).1, (hq p).2]
  exact (hfree run idle).2 p

theorem EngineSound.off (hi : t.item = none) (hp : t.phase ≠ .running) : EngineSound t :=
  ⟨fun h => absurd hi h, fun h => absurd h hp⟩

/-! ### Taking a client and ending an item -/

theorem Port.eligible_taken {q : Port} {f : RequestFrame} (h : q.eligible = some f) (hq : PortSound q) :
    PortSound (takenPort f q) := by
  obtain ⟨hreq, hent, hnodup, hperm, hcount, hapart, hheld, hfetch, hwatch, hpark⟩ := hq
  obtain ⟨head, room⟩ := Port.eligible_iff.1 h
  obtain ⟨rest, hr⟩ := List.head?_eq_some_iff.1 head
  refine ⟨?_, ?_, hnodup, hperm.trans ?_, hcount, hapart, hheld, hfetch, hwatch, hpark⟩
  · simp only [takenPort, List.length_tail]
    omega
  · simp only [takenPort, List.length_append, List.length_singleton]
    omega
  · have moved := (List.perm_middle (a := f.tag) (l₁ := rest.map RequestFrame.tag ++ q.reserved)
      (l₂ := q.filled.map Reply.tag)).symm
    simpa [Port.outstanding, takenPort, hr] using moved

/-- R143, R145: the engine as it takes a client keeps every port sound and is sound itself. -/
theorem PortsSound.engaged (hq : ∀ q : PortId, PortSound s.ports[q]) (h : s.item ≠ none → s.phase = .running) :
    PortsSound s.engaged := by
  refine ⟨fun q => ?_, .engaged h⟩
  obtain same | ⟨f, hf, taken⟩ := s.engaged_port q
  · rw [same]; exact hq q
  · rw [taken]; exact Port.eligible_taken hf (hq q)

theorem PortsSound.finish (hq : ∀ q : PortId, PortSound s.ports[q]) : PortsSound s.finish :=
  .engaged (s := { s with item := none }) hq fun h => absurd rfl h

theorem PortsSound.raiseAll (h : PortsSound s) (es : List Event) : PortsSound (s.raiseAll es) :=
  .engaged (s := { s with events := s.events ++ es }) h.1 h.2.1

theorem PortsSound.raise (h : PortsSound s) (e : Event) : PortsSound (s.raise e) := h.raiseAll [e]

/-- What the soundness of ports and engine reads of a state. -/
theorem PortsSound.congr (h : PortsSound s) (hi : t.item = s.item) (hp : t.phase = s.phase)
    (he : t.events = s.events) (hq : t.ports = s.ports) : PortsSound t :=
  ⟨fun q => by rw [hq]; exact h.1 q, h.2.congr hi hp he fun p => by rw [hq]; exact ⟨rfl, rfl⟩⟩

/-- A port changed, with the work that it offers the engine as it was. -/
theorem PortsSound.modifyPort {g : Port → Port} (h : PortsSound s) (hg : PortSound (g s.ports[p]))
    (hr : (g s.ports[p]).requests = s.ports[p].requests)
    (he : (g s.ports[p]).reserved.length + (g s.ports[p]).filled.length
      = s.ports[p].reserved.length + s.ports[p].filled.length) : PortsSound (s.modifyPort p g) := by
  have at' (q : PortId) : (s.modifyPort p g).ports[q] = if p = q then g s.ports[p] else s.ports[q] := by
    rw [State.modifyPort_ports, vector_set_at]
  refine ⟨fun q => ?_, h.2.congr (by simp) (by simp) (by simp) fun q => ?_⟩
  · rw [at']
    split
    · exact hg
    · exact h.1 q
  · rw [at']
    split
    · subst q; exact ⟨hr, he⟩
    · exact ⟨rfl, rfl⟩

theorem PortSound.modifyPort {g : Port → Port} (h : ∀ q : PortId, PortSound s.ports[q])
    (hg : PortSound (g s.ports[p])) (q : PortId) : PortSound (s.modifyPort p g).ports[q] := by
  rw [State.modifyPort_ports, vector_set_at]
  split
  · exact hg
  · exact h q

/-! ### The transactions of a port -/

theorem PortSound.begin {q : Port} (h : PortSound q) (hb : q.transaction = .none ∨ q.transaction = .begun)
    (ready : Bool) : PortSound (beginTransaction ready q) := by
  obtain ⟨hreq, hent, hnodup, hperm, hcount, hapart, hheld, hfetch, hwatch, hpark⟩ := h
  refine ⟨hreq, hent, hnodup, hperm, hcount, hapart, ?_, ?_, hwatch, hpark⟩
  · simp only [beginTransaction, hheld]
    obtain hb | hb := hb <;> simp [hb]
  · simp [beginTransaction, Transaction.reply?]

/-- The end of a transaction that sends neither a notice nor a reply. -/
theorem PortSound.endTransaction {q : Port} (h : PortSound q) (hb : q.transaction ≠ .notice) :
    PortSound { q with transaction := .none } := by
  obtain ⟨hreq, hent, hnodup, hperm, hcount, hapart, hheld, hfetch, hwatch, hpark⟩ := h
  refine ⟨hreq, hent, hnodup, hperm, hcount, hapart, ?_, ?_, hwatch, hpark⟩
  · simp only [hheld, hb]
    simp
  · simp [Transaction.reply?]

theorem judgeSubmit_accepted {ready : Bool} {q : Port} {bytes : List Byte}
    (h : judgeSubmit ready q bytes = .accepted) :
    (parseFrame bytes).tag ∉ q.tags ∧ q.requests.length < 4 := by
  unfold judgeSubmit at h
  split at h
  · cases h
  split at h
  · cases h
  split at h
  · cases h
  split at h
  · cases h
  split at h
  · exact ⟨‹_›, ‹_›⟩
  · cases h

theorem PortSound.submit {q : Port} (h : PortSound q) (hb : q.transaction = .begun) (ready : Bool)
    (bytes : List Byte) : PortSound (submitPort ready bytes q) := by
  have ended := h.endTransaction (by simp [hb])
  unfold submitPort
  split
  · rename_i accepted
    obtain ⟨fresh, room⟩ := judgeSubmit_accepted accepted
    obtain ⟨hreq, hent, hnodup, hperm, hcount, hapart, hheld, hfetch, hwatch, hpark⟩ := ended
    refine ⟨?_, hent, ?_, ?_, hcount, hapart, hheld, hfetch, hwatch, hpark⟩
    · simp only [List.length_append, List.length_singleton]
      omega
    · exact List.nodup_append.2 ⟨hnodup, List.nodup_singleton _, by
        intro a ha b hb' e
        rw [List.mem_singleton.1 hb'] at e
        exact fresh (e ▸ ha)⟩
    · refine (hperm.append_right _).trans ?_
      have moved := (List.perm_append_comm (l₁ := q.reserved ++ q.filled.map Reply.tag)
        (l₂ := [(parseFrame bytes).tag])).append_left (q.requests.map RequestFrame.tag)
      simpa [Port.outstanding] using moved
  · exact ended

theorem PortSound.fetch {q : Port} (h : PortSound q) (hb : q.transaction = .begun) : PortSound (fetchPort q) := by
  obtain ⟨hreq, hent, hnodup, hperm, hcount, hapart, hheld, hfetch, hwatch, hpark⟩ := h
  refine ⟨hreq, hent, hnodup, hperm, hcount, hapart, ?_, ?_, hwatch, hpark⟩
  · simp only [fetchPort, hheld, hb]
    simp
  · simp [fetchPort, Transaction.reply?]

theorem PortSound.fetchNotice {q : Port} (h : PortSound q) (hb : q.transaction = .begun) :
    PortSound (fetchNoticePort q) := by
  obtain ⟨hreq, hent, hnodup, hperm, hcount, hapart, hheld, hfetch, hwatch, hpark⟩ := h
  have unheld : q.held.isSome = false := by
    rw [← Bool.not_eq_true, hheld, hb]
    simp
  unfold fetchNoticePort
  split
  · rename_i n rest hn
    rw [hn] at hcount hapart
    refine ⟨hreq, hent, hnodup, hperm, ?_, (List.pairwise_cons.1 hapart).2, by simp, by simp [Transaction.reply?],
      hwatch, hpark⟩
    simpa [unheld] using hcount
  · refine ⟨hreq, hent, hnodup, hperm, hcount, hapart, ?_, by simp [Transaction.reply?], hwatch, hpark⟩
    simp [unheld]

theorem PortSound.fetchRelease {q : Port} (h : PortSound q) (n : Nat) : PortSound (fetchReleasePort n q) := by
  unfold fetchReleasePort
  split
  · rename_i r htr
    have ended := h.endTransaction (by simp [htr])
    split
    · obtain ⟨hreq, hent, hnodup, hperm, hcount, hapart, hheld, _, hwatch, hpark⟩ := ended
      obtain ⟨rest, hfilled⟩ : ∃ rest, q.filled = r :: rest :=
        List.head?_eq_some_iff.1 (h.2.2.2.2.2.2.2.1 r (by simp [htr, Transaction.reply?]))
      refine ⟨hreq, ?_, hnodup.erase _, ?_, hcount, hapart, hheld, by simp [Transaction.reply?], hwatch, hpark⟩
      · simp only [List.length_tail]
        dsimp only at hent
        omega
      · have perm : q.tags.Perm (r.tag :: (q.requests.map RequestFrame.tag ++ q.reserved ++ rest.map Reply.tag)) := by
          refine hperm.trans ?_
          simp only [Port.outstanding, hfilled, List.map_cons]
          exact List.perm_middle
        refine (perm.erase r.tag).trans ?_
        simp [Port.outstanding, hfilled]
    · exact ended
  · rename_i htr
    exact h.endTransaction (by simp [htr])
  all_goals exact h

/-- R90: a held notice put back keeps one notice for a key and takes at most the place that it held. -/
theorem putBack_sound (n : Notice) {ns : List Notice} (h : ns.Pairwise (fun m n => m.sameKey n = false)) :
    (putBack n ns).Pairwise (fun m n => m.sameKey n = false) ∧ (putBack n ns).length ≤ ns.length + 1 := by
  unfold putBack
  split
  · rename_i fresh
    have apart (m : Notice) (hm : m ∈ ns) : m.sameKey n = false := by
      simpa using List.find?_eq_none.1 fresh m hm
    refine ⟨List.pairwise_cons.2 ⟨fun m hm => ?_, h⟩, le_refl _⟩
    rw [Notice.sameKey_false_iff]
    exact (Notice.sameKey_false_iff.1 (apart m hm)).symm
  · rename_i m hm
    have same : m.sameKey n = true := by simpa using List.find?_some hm
    refine ⟨List.pairwise_cons.2 ⟨fun x hx => ?_, h.filter _⟩, ?_⟩
    · have other : x.sameKey n = false := by simpa using (List.mem_filter.1 hx).2
      rw [Notice.sameKey_false_iff, Notice.merge_subject, Notice.sameKey_iff.1 same]
      exact (Notice.sameKey_false_iff.1 other).symm
    · exact Nat.succ_le_succ (List.length_filter_le _ _)

theorem PortSound.noticeRelease {q : Port} (h : PortSound q) (n : Nat) : PortSound (fetchNoticeReleasePort n q) := by
  have whole := h
  obtain ⟨hreq, hent, hnodup, hperm, hcount, hapart, hheld, hfetch, hwatch, hpark⟩ := h
  unfold fetchNoticeReleasePort
  split
  · rename_i htr
    split
    · rename_i hn
      rw [hn] at hheld
      exact absurd (hheld.2 htr) (by simp)
    · rename_i x hx
      simp only [hx, Option.isSome_some, if_true] at hcount
      split
      · exact ⟨hreq, hent, hnodup, hperm, by simpa using Nat.le_of_succ_le hcount, hapart, by simp,
          by simp [Transaction.reply?], hwatch, hpark⟩
      · obtain ⟨apart, length⟩ := putBack_sound x.notice hapart
        exact ⟨hreq, hent, hnodup, hperm, by simpa using length.trans hcount, apart, by simp,
          by simp [Transaction.reply?], hwatch, hpark⟩
  · rename_i htr
    split
    · exact whole.endTransaction (by simp [htr])
    · exact whole.endTransaction (by simp [htr])
  all_goals exact whole

theorem PortSound.link {q : Port} {g : Port → Port} (hg : LinkServed s c p g) (h : PortSound q)
    (hb : q.transaction = .begun) : PortSound (g q) := by
  cases hg with
  | fetched => exact h.fetch hb
  | noticeFetched => exact h.fetchNotice hb
  | peeked => exact h.endTransaction (by simp [hb])
  | unknown => exact h.endTransaction (by simp [hb])

theorem LinkServed.work {g : Port → Port} (hg : LinkServed s c p g) (q : Port) :
    (g q).requests = q.requests ∧ (g q).reserved = q.reserved ∧ (g q).filled = q.filled := by
  cases hg with
  | noticeFetched => unfold fetchNoticePort; split <;> exact ⟨rfl, rfl, rfl⟩
  | _ => exact ⟨rfl, rfl, rfl⟩

theorem fetchNoticeReleasePort_work (n : Nat) (q : Port) : (fetchNoticeReleasePort n q).requests = q.requests
    ∧ (fetchNoticeReleasePort n q).reserved = q.reserved ∧ (fetchNoticeReleasePort n q).filled = q.filled := by
  unfold fetchNoticeReleasePort
  split
  · split
    · exact ⟨rfl, rfl, rfl⟩
    · split <;> exact ⟨rfl, rfl, rfl⟩
  · split <;> exact ⟨rfl, rfl, rfl⟩
  all_goals exact ⟨rfl, rfl, rfl⟩

theorem blankPort_sound (prst : Bool) (v : Privilege) {parked watches : Nat} (hp : parked ≤ 2) (hw : watches ≤ 64) :
    PortSound { blankPort prst v with parked := parked, watchCount := watches } :=
  ⟨by simp [blankPort], by simp [blankPort], by simp [blankPort], by simp [blankPort, Port.outstanding],
    by simp [blankPort], by simp [blankPort], by simp [blankPort], by simp [blankPort, Transaction.reply?], hw, hp⟩

/-! ### The work of the Store Engine -/

theorem PortsSound.startHead (h : PortsSound s) : PortsSound s.startHead := by
  unfold State.startHead
  split
  · exact h
  · refine PortsSound.raise (h.congr ?_ ?_ ?_ ?_) _ <;> rfl

theorem State.resume_events (s : State) (g : GroupId) : (s.resume g).events = s.events := by
  unfold State.resume
  split <;> rfl

theorem PortsSound.startWork (h : PortsSound s) : PortsSound s.startWork := by
  unfold State.startWork
  split
  · exact h
  · split
    · exact h
    · split
      · exact h.congr (s.resume_item _) (by simp) (s.resume_events _) (s.resume_ports _)
      · exact h.startHead

theorem PortsSound.switch (h : PortsSound s) (g : GroupId) (cap : Vector CapturedHome 16) :
    PortsSound (s.switch g cap) := by
  refine PortsSound.startWork (PortsSound.raise (h.congr ?_ ?_ ?_ ?_) _) <;> rfl

theorem PortsSound.fault (h : PortsSound s) (g : GroupId) : PortsSound (s.fault g) := by
  refine PortsSound.startWork (PortsSound.raise (h.congr ?_ ?_ ?_ ?_) _) <;> rfl

theorem PortsSound.rewriteFails (h : PortsSound s) (g : GroupId) (at' : Attempt) :
    PortsSound (s.rewriteFails g at') := by
  unfold State.rewriteFails
  split
  · split <;> exact h.congr rfl rfl rfl rfl
  · exact PortsSound.fault (s := { s with pauseOrdered := false }) (h.congr rfl rfl rfl rfl) g

theorem Reported.portsSound {a : ActiveRewrite} (hr : Reported s a u) (h : PortsSound s) : PortsSound u := by
  cases hr with
  | erased => exact h.congr rfl rfl rfl rfl
  | suspended => exact h.congr rfl rfl rfl rfl
  | paused => exact PortsSound.startHead (s := s.suspendActive a) (h.congr rfl rfl rfl rfl)
  | programmed => exact h.congr rfl rfl rfl rfl
  | switched => exact PortsSound.switch (s := s.setSpare a.group _) (h.congr rfl rfl rfl rfl) _ _
  | failed ph m =>
    exact PortsSound.rewriteFails (s := { s.setSpare a.group _ with fresh := s.fresh + 1 }) (h.congr rfl rfl rfl rfl) _ _

/-! ### Every command -/

theorem PortsSound.raiseEviction (hq : ∀ q : PortId, PortSound s.ports[q]) (hi : s.item ≠ none → s.phase = .running)
    (he : s.phase = .running → s.item = none → s.events = [] ∧ ∀ p : PortId,
      s.ports[p].requests = [] ∨ 4 ≤ s.ports[p].reserved.length + s.ports[p].filled.length) (p : PortId) :
    PortsSound (s.raiseEviction p) := by
  unfold State.raiseEviction
  split
  · split
    · exact ⟨hq, hi, he⟩
    · exact .engaged (s := { s with events := s.events ++ [.eviction p] }) hq hi
  · exact ⟨hq, hi, he⟩

theorem Port.handNotice_work (q : Port) (n : Notice) :
    (q.handNotice n).reserved = q.reserved ∧ (q.handNotice n).filled = q.filled := by
  unfold Port.handNotice
  split
  · exact ⟨rfl, rfl⟩
  · split <;> exact ⟨rfl, rfl⟩

theorem handedAll_at (ports : Vector Port 4) (kinds : DeviceKinds) (g : Option GroupId) (q : PortId) :
    (handedAll ports kinds g)[q] =
      if ports[q].privilege = .supervisor then ports[q].handNotice (.device kinds g) else ports[q] := by
  simp [handedAll]

theorem PortsSound.deviceNotice (h : PortsSound s) (kinds : DeviceKinds) (g : Option GroupId) :
    PortsSound (s.deviceNotice kinds g) := by
  have moves := PortsMove.deviceNotice s kinds g
  refine ⟨fun q => (moves q).sound (h.1 q), h.2.congr (by simp) (by simp) (by simp) fun q => ⟨(moves q).frame.2.2.1, ?_⟩⟩
  simp only [State.deviceNotice_eq, handedAll_at]
  split
  · rw [(Port.handNotice_work _ _).1, (Port.handNotice_work _ _).2]
  · rfl

theorem State.inBegun_cases (s : State) (p : PortId) (g : Port → Port) :
    s.inBegun p g = s ∨ (s.ports[p].transaction = .begun ∧ s.inBegun p g = s.modifyPort p g) := by
  unfold State.inBegun
  split
  · rename_i h
    exact .inr ⟨h.2, rfl⟩
  · exact .inl rfl

theorem PortsSound.tick (h : PortsSound s) : PortsSound { s.fallAllDue.tickActive with time := s.time + 1 } := by
  have fallen : PortsSound s.fallAllDue := by
    refine PortsSound.raiseAll (h.congr ?_ ?_ ?_ ?_) _ <;> rfl
  exact fallen.congr (by simp) (by simp) (by simp) (by simp)

theorem PortsSound.fallDue (h : PortsSound s) : PortsSound s.fallDue := by
  unfold State.fallDue
  split
  · exact h
  · split
    · refine PortsSound.raise (h.congr ?_ ?_ ?_ ?_) _ <;> rfl
    · exact h

theorem PortsSound.submitted (h : PortsSound s) (p : PortId) (ready : Bool) (bytes : List Byte) :
    PortsSound (s.inBegun p (submitPort ready bytes)).engaged := by
  obtain same | ⟨begun, changed⟩ := s.inBegun_cases p (submitPort ready bytes)
  · rw [same]; exact .engaged h.1 h.2.1
  · rw [changed]
    exact .engaged (PortSound.modifyPort h.1 ((h.1 p).submit begun ready bytes)) (by simpa using h.2.1)

theorem PortsSound.cleared (s : State) {ph : RunState} (hp : ph ≠ .running) : PortsSound (s.cleared ph) :=
  ⟨fun q => by rw [blankPorts_at]; exact blankPort_sound _ _ (by omega) (by omega), .off rfl hp⟩

theorem PortsSound.portReset (h : PortsSound s) (p : PortId) :
    PortsSound ((s.modifyPort p prstPort).raiseEviction p) := by
  have blank : PortSound (prstPort s.ports[p]) :=
    blankPort_sound true _ (h.1 p).2.2.2.2.2.2.2.2.2 (h.1 p).2.2.2.2.2.2.2.2.1
  refine .raiseEviction (PortSound.modifyPort h.1 blank) (by simpa using h.2.1) (fun run idle => ?_) p
  obtain ⟨events, free⟩ := h.2.2 (by simpa using run) (by simpa using idle)
  refine ⟨by simpa using events, fun q => ?_⟩
  rw [State.modifyPort_ports, vector_set_at]
  split
  · exact .inl rfl
  · exact free q

theorem PortsSound.restored (h : PortsSound s) (held : s.phase = .reset) (v0 v1 v2 v3 : Privilege)
    (gs : List GroupId) : PortsSound ((s.beginRestore.sampleStraps v0 v1 v2 v3).restoreGroups gs) := by
  have idle : s.item = none := of_not_not fun hi => by simp [h.2.1 hi] at held
  have ports : ((s.beginRestore.sampleStraps v0 v1 v2 v3).restoreGroups gs).ports =
      (s.beginRestore.sampleStraps v0 v1 v2 v3).ports := by simp
  refine ⟨fun q => ?_, .off (by simpa using idle) (by simp [State.beginRestore])⟩
  rw [ports, sampleStraps_at]
  exact h.1 q

/-- R143, R145 and what O10 says of each port, over every command. -/
theorem Ran.portsSound (h : Ran s c t) (hs : PortsSound s) : PortsSound t := by
  have whole := hs
  obtain ⟨ports, busy, free⟩ := hs
  cases h with
  | idle => exact whole
  | request _ p f u row item served => exact .finish fun q => (served.portsMove q).sound (ports q)
  | event _ e u row item handled => exact .finish fun q => (handled.portsMove q).sound (ports q)
  | reset => exact .cleared _ (by decide)
  | powerLost => exact .cleared _ (by decide)
  | restored v0 v1 v2 v3 held => exact whole.restored held v0 v1 v2 v3 _
  | restoreEnded =>
    have moves := (PortsMove.restoreLostNotices s (List.finRange 16)).trans (.powerWarnSeen _)
    generalize (s.restoreLostNotices (List.finRange 16)).powerWarnSeen = x at moves ⊢
    exact .engaged (s := { x with phase := .running, pfwSeen := false }) (fun q => (moves q).sound (ports q)) fun _ => rfl
  | portReset p => exact whole.portReset p
  | portReleased p => exact whole.modifyPort (ports p) rfl rfl
  | pfwServing running level =>
    exact PortsSound.deviceNotice (whole.congr (by simp) (by simp) (by simp) (by simp)) _ _
  | pfwEarly => exact whole.congr rfl rfl rfl rfl
  | pfwReleased => exact whole.congr rfl rfl rfl rfl
  | ticked => exact whole.tick
  | fellDue => exact whole.fallDue
  | begun p linked idle => exact whole.modifyPort ((ports p).begin idle _) rfl rfl
  | submitted p bytes => exact whole.submitted p _ bytes
  | fetchReleased p n =>
    exact .engaged (PortSound.modifyPort ports ((ports p).fetchRelease n)) (by simpa using busy)
  | noticeReleased p n =>
    obtain ⟨requests, reserved, filled⟩ := fetchNoticeReleasePort_work n s.ports[p]
    exact whole.modifyPort ((ports p).noticeRelease n) requests (by rw [reserved, filled])
  | link _ p g linked begun served =>
    obtain ⟨requests, reserved, filled⟩ := served.work s.ports[p]
    exact whole.modifyPort (.link served (ports p) begun) requests (by rw [reserved, filled])
  | started => exact whole.startWork
  | report _ a u row reported => exact reported.portsSound whole

/-- Settles O10: every command keeps the ports and the engine sound, and a step runs one. -/
theorem stepKeepsPortsSound : Obligations.StepKeepsPortsSound := fun _ _ hs h =>
  step_keeps (P := PortsSound) (fun _ _ h => h) (fun _ _ _ ran => ran.portsSound) hs h

end Sys2Proof.Machine
end

section
/-! SUPPORT. What an item makes of the table, said once: the records that stand, the Key Index and the Home Map. -/

namespace Sys2Proof.Machine

variable {s t u : State} {p : PortId} {f : RequestFrame} {i : Slot} {r : Record}

/-! ### Homes after a change -/

theorem State.setHome_at (s : State) (h h' : HomeId) (x : Home) :
    (s.setHome h x).home h' = if h' = h then x else s.home h' := by
  obtain ⟨g, k⟩ := h
  obtain ⟨g', k'⟩ := h'
  rw [State.home, State.setHome_homeMap]
  dsimp only
  rw [vector_set_at]
  by_cases hg : g = g'
  · subst g'
    rw [if_pos rfl, vector_set_at]
    by_cases hk : k = k'
    · subst k'; simp
    · simp [hk, Ne.symm hk, State.home]
  · simp [hg, Ne.symm hg, State.home]

theorem State.home_congr (h : t.homeMap = s.homeMap) (x : HomeId) : t.home x = s.home x := by
  rw [State.home, State.home, h]

theorem State.homeKey_congr (hh : t.homeMap = s.homeMap) (x : HomeId)
    (hs : ∀ i : Slot, t.slots[i].map Record.key = s.slots[i].map Record.key) : t.homeKey x = s.homeKey x := by
  unfold State.homeKey
  rw [State.home_congr hh]
  cases s.home x with
  | occupied i => exact hs i
  | _ => rfl

/-! ### Home Map and table (R98) -/

theorem HomesSound.congr (h : HomesSound s) (hh : t.homeMap = s.homeMap)
    (hs : ∀ i : Slot, t.slots[i].map Record.home = s.slots[i].map Record.home) : HomesSound t := by
  obtain ⟨named, occupies⟩ := h
  refine ⟨fun g k i hi => ?_, fun i r hr x hx => ?_⟩
  · rw [State.home_congr hh] at hi
    rw [hs]
    exact named g k i hi
  · have := hs i
    rw [Option.mem_def.1 hr] at this
    obtain ⟨r', hr', home⟩ := Option.map_eq_some_iff.1 this.symm
    rw [State.home_congr hh]
    exact occupies i r' hr' x (home ▸ hx)

/-- The Key Index and the Home Map agree with the table. -/
def TableSound (s : State) : Prop := IndexSound s ∧ HomesSound s

theorem TableSound.eqs (h : TableSound s) (hs : t.slots = s.slots) (hi : t.index = s.index)
    (hh : t.homeMap = s.homeMap) : TableSound t :=
  ⟨h.1.eqs hi hs, h.2.congr hh fun i => by rw [hs]⟩

theorem HomesSound.setSlot (h : HomesSound s) {r' : Record} (hr : s.slots[i] = some r) (hh : r'.home = r.home) :
    HomesSound (s.setSlot i (some r')) :=
  h.congr (by simp) fun j => by
    rw [State.setSlot_at]
    split
    · subst j; simp [hr, hh]
    · rfl

/-- R20: the removal of a record leaves its home without a slot. -/
theorem State.removed_home (s : State) (i : Slot) (r : Record) (h : HomeId) :
    (s.removed i r).home h = if r.home = some h then .vacated r.key else s.home h := by
  unfold State.removed State.vacated
  cases hr : r.home with
  | none => simp [State.home]
  | some x =>
    show (s.setHome x (.vacated r.key)).home h = _
    rw [State.setHome_at]
    simp only [Option.some.injEq, eq_comm]

theorem State.removed_at (s : State) (i j : Slot) (r : Record) :
    (s.removed i r).slots[j] = if i = j then none else s.slots[j] := vector_set_at _ _ _ _

theorem HomesSound.remove (h : HomesSound s) (i : Slot) : HomesSound (s.remove i) := by
  cases hr : s.slots[i] with
  | none => simpa [State.remove, hr] using h
  | some r =>
    rw [State.remove_eq hr]
    obtain ⟨named, occupies⟩ := h
    refine ⟨fun g k j hj => ?_, fun j x hx y hy => ?_⟩
    · rw [State.removed_home] at hj
      split at hj
      · cases hj
      · rename_i other
        have home := named g k j hj
        rw [State.removed_at, if_neg]
        · exact home
        · rintro rfl
          rw [hr] at home
          exact other (by simpa using home)
    · rw [State.removed_at] at hx
      split at hx
      · cases hx
      · rename_i ne
        rw [State.removed_home, if_neg]
        · exact occupies j x hx y hy
        · intro same
          have at_i := occupies i r hr y same
          have at_j := occupies j x hx y hy
          rw [at_i] at at_j
          cases at_j
          exact ne rfl

theorem TableSound.remove (h : TableSound s) (i : Slot) : TableSound (s.remove i) := ⟨h.1.remove i, h.2.remove i⟩

/-! ### Keys of homes (R101) -/

/-- R20: a home keeps its key when its record is removed. -/
theorem State.remove_homeKey (h : HomesSound s) (i : Slot) (x : HomeId) : (s.remove i).homeKey x = s.homeKey x := by
  cases hr : s.slots[i] with
  | none => simp [State.remove, hr]
  | some r =>
    obtain ⟨named, occupies⟩ := h
    rw [State.remove_eq hr]
    unfold State.homeKey
    rw [State.removed_home]
    by_cases hx : r.home = some x
    · rw [if_pos hx, occupies i r hr x hx]
      dsimp only
      rw [hr, Option.map_some]
    · rw [if_neg hx]
      cases hh : s.home x with
      | occupied j =>
        have home := named x.group x.home j (by rw [hh]; rfl)
        dsimp only
        rw [State.removed_at, if_neg]
        rintro rfl
        rw [hr] at home
        exact hx (by simpa using home)
      | _ => rfl

/-! ### Moves of the table -/

/-- A record that stands as it stood but for its hold, its waiters and its watches, and may have become RETIRING. -/
def Record.Stays (r r' : Record) : Prop :=
  (r'.key = r.key ∧ r'.home = r.home ∧ r'.floor = r.floor ∧ r'.ceiling = r.ceiling)
    ∧ (r'.guard = r.guard ∧ r'.value = r.value ∧ r'.generation = r.generation)
    ∧ (r.state = .retiring → r'.state = .retiring)

theorem Record.Stays.refl (r : Record) : r.Stays r := ⟨⟨rfl, rfl, rfl, rfl⟩, ⟨rfl, rfl, rfl⟩, id⟩

theorem Record.Stays.trans {r r' r'' : Record} (h : r.Stays r') (h' : r'.Stays r'') : r.Stays r'' := by
  obtain ⟨⟨hk, hh, hf, hc⟩, ⟨hg, hv, hn⟩, hs⟩ := h
  obtain ⟨⟨hk', hh', hf', hc'⟩, ⟨hg', hv', hn'⟩, hs'⟩ := h'
  exact ⟨⟨hk'.trans hk, hh'.trans hh, hf'.trans hf, hc'.trans hc⟩, ⟨hg'.trans hg, hv'.trans hv, hn'.trans hn⟩,
    hs' ∘ hs⟩

/-- Index and homes agree with the table after as before, each home keeps its key, and none comes to be occupied. -/
structure HomesMove (s t : State) : Prop where
  sound : TableSound s → TableSound t
  keys : TableSound s → ∀ h, t.homeKey h = s.homeKey h
  unoccupied : ∀ h, (s.home h).slot? = none → (t.home h).slot? = none

/-- Such a move in which, besides, every record that stands after has stood before. -/
structure TableMove (s t : State) : Prop extends HomesMove s t where
  records : ∀ i : Slot, ∀ r' ∈ t.slots[i], ∃ r ∈ s.slots[i], r.Stays r'

theorem HomesMove.trans (h : HomesMove s t) (h' : HomesMove t u) : HomesMove s u where
  sound hs := h'.sound (h.sound hs)
  keys hs x := (h'.keys (h.sound hs) x).trans (h.keys hs x)
  unoccupied x hx := h'.unoccupied x (h.unoccupied x hx)

theorem TableMove.trans (h : TableMove s t) (h' : TableMove t u) : TableMove s u where
  toHomesMove := h.toHomesMove.trans h'.toHomesMove
  records i r'' hr := by
    obtain ⟨r', hr', stays'⟩ := h'.records i r'' hr
    obtain ⟨r, hr, stays⟩ := h.records i r' hr'
    exact ⟨r, hr, stays.trans stays'⟩

/-- The table's part of the state. -/
def SameTable (s t : State) : Prop := t.slots = s.slots ∧ t.index = s.index ∧ t.homeMap = s.homeMap

theorem TableMove.same (h : SameTable s t) : TableMove s t where
  sound hs := hs.eqs h.1 h.2.1 h.2.2
  keys _ x := State.homeKey_congr h.2.2 x fun i => by rw [h.1]
  unoccupied x hx := by rwa [State.home_congr h.2.2]
  records i r hr := ⟨r, by rwa [h.1] at hr, .refl r⟩

theorem TableMove.refl (s : State) : TableMove s s := .same ⟨rfl, rfl, rfl⟩

theorem TableMove.congr (h : TableMove s t) (hu : SameTable t u) : TableMove s u := h.trans (.same hu)

theorem HomesMove.setSlot {r' : Record} (hr : s.slots[i] = some r) (hk : r'.key = r.key) (hh : r'.home = r.home) :
    HomesMove s (s.setSlot i (some r')) where
  sound hs := ⟨hs.1.setSlot hr hk, hs.2.setSlot hr hh⟩
  keys _ x := State.homeKey_congr (by simp) x fun j => by
    rw [State.setSlot_at]
    split
    · subst j; simp [hr, hk]
    · rfl
  unoccupied x hx := by rwa [State.home_congr (s := s) (by simp)]

theorem TableMove.setSlot {r' : Record} (hr : s.slots[i] = some r) (h : r.Stays r') :
    TableMove s (s.setSlot i (some r')) where
  toHomesMove := .setSlot hr h.1.1 h.1.2.1
  records j x hx := by
    rw [State.setSlot_at] at hx
    split at hx
    · subst j
      obtain rfl := Option.mem_some_iff.1 hx
      exact ⟨r, hr, h⟩
    · exact ⟨x, hx, .refl x⟩

theorem TableMove.remove (s : State) (i : Slot) : TableMove s (s.remove i) where
  sound hs := hs.remove i
  keys hs x := State.remove_homeKey hs.2 i x
  unoccupied x hx := by
    cases hr : s.slots[i] with
    | none => simpa [State.remove, hr] using hx
    | some r =>
      rw [State.remove_eq hr, State.removed_home]
      split
      · rfl
      · exact hx
  records j r' hr' := by
    cases hr : s.slots[i] with
    | none =>
      rw [State.remove, hr] at hr'
      exact ⟨r', hr', .refl r'⟩
    | some r =>
      rw [State.remove_eq hr, State.removed_at] at hr'
      split at hr'
      · cases hr'
      · exact ⟨r', hr', .refl r'⟩

/-! ### Moves of the shared operations -/

theorem TableMove.notifyHolder (s : State) (i : Slot) : TableMove s (s.notifyHolder i) :=
  .same ⟨by simp, by simp, by simp⟩

theorem TableMove.dropClaim (s : State) (w : ParkedClaim) : TableMove s (s.dropClaim w) :=
  .same ⟨by simp, by simp, by simp⟩

theorem TableMove.fill (s : State) (p : PortId) (x : Reply) : TableMove s (s.fill p x) :=
  .same ⟨by simp, by simp, by simp⟩

theorem TableMove.answer (h : TableMove s t) (p : PortId) (f : RequestFrame) (a : Answer) :
    TableMove s (t.answer p f a) := h.trans (.fill t p _)

theorem TableMove.addDeadline (s : State) (kind : DeadlineKind) (key : Key) (q : PortId) (len : Ticks) :
    TableMove s (s.addDeadline kind key q len) := .same ⟨by simp, by simp, by simp⟩

theorem TableMove.removeDeadline (s : State) (n : Option Serial) : TableMove s (s.removeDeadline n) :=
  .same ⟨by simp, by simp, by simp⟩

theorem TableMove.grant {r' : Record} (hr : s.slots[i] = some r) (h : r.Stays r') (q : PortId) (len : Ticks) :
    TableMove s (s.grant i r' q len) := by
  unfold State.grant
  split
  · exact .setSlot hr (h.trans ⟨⟨rfl, rfl, rfl, rfl⟩, ⟨rfl, rfl, rfl⟩, id⟩)
  · refine (TableMove.addDeadline s .lease r'.key q len).trans (.setSlot (r := r) (by simpa using hr) ?_)
    exact h.trans ⟨⟨rfl, rfl, rfl, rfl⟩, ⟨rfl, rfl, rfl⟩, id⟩

theorem TableMove.handoff (s : State) (i : Slot) : TableMove s (s.handoff i) := by
  unfold State.handoff
  split
  · exact .refl s
  · rename_i r hr
    split
    · rename_i w rest _
      refine TableMove.trans (TableMove.trans ((TableMove.dropClaim s w).trans ?_) (.fill _ _ _)) (.notifyHolder _ i)
      exact .grant (r := r) (r' := { r with waiters := rest }) (by simpa using hr) ⟨⟨rfl, rfl, rfl, rfl⟩, ⟨rfl, rfl, rfl⟩, id⟩ _ _
    · split
      · exact (TableMove.notifyHolder s i).trans (.remove _ i)
      · exact .notifyHolder s i

theorem TableMove.endHold (s : State) (i : Slot) (expired : Bool) : TableMove s (s.endHold i expired) := by
  unfold State.endHold
  split
  · exact .refl s
  · rename_i r hr
    have dropped : TableMove s (s.dropHold i r) :=
      (TableMove.removeDeadline s r.lease).trans
        (.setSlot (r := r) (by simpa using hr) ⟨⟨rfl, rfl, rfl, rfl⟩, ⟨rfl, rfl, rfl⟩, id⟩)
    split
    · exact (dropped.congr (u := (s.dropHold i r).leaseLost r) ⟨by simp, by simp, by simp⟩).trans (.handoff _ i)
    · exact dropped.trans (.handoff _ i)

theorem TableMove.withdrawClaim (s : State) (i : Slot) (w : ParkedClaim) : TableMove s (s.withdrawClaim i w) := by
  unfold State.withdrawClaim
  split
  · exact .refl s
  · rename_i r hr
    exact (TableMove.dropClaim s w).trans
      (.setSlot (r := r) (by simpa using hr) ⟨⟨rfl, rfl, rfl, rfl⟩, ⟨rfl, rfl, rfl⟩, id⟩)

theorem TableMove.endClaim (s : State) (i : Slot) (w : ParkedClaim) (st : Status) :
    TableMove s (s.endClaim i w st) :=
  (TableMove.withdrawClaim s i w).congr (u := s.endClaim i w st)
    ⟨by simp [State.endClaim], by simp [State.endClaim], by simp [State.endClaim]⟩

theorem TableMove.setLease (hr : s.slots[i] = some r) {r' : Record} (h : r.Stays r') (len : Ticks) :
    TableMove s (s.setLease i r' len) := by
  have stays (n : Option Serial) : r.Stays { r' with lease := n } := h.trans ⟨⟨rfl, rfl, rfl, rfl⟩, ⟨rfl, rfl, rfl⟩, id⟩
  have removed := TableMove.removeDeadline s r'.lease
  have hr' : (s.removeDeadline r'.lease).slots[i] = some r := by simpa using hr
  unfold State.setLease
  dsimp only
  split
  · exact removed.trans (.setSlot hr' (stays none))
  · split
    · exact removed.trans (.setSlot hr' (stays none))
    · exact (removed.trans (.addDeadline _ .lease r'.key _ len)).trans (.setSlot (r := r) (by simpa using hr) (stays _))

theorem TableMove.raiseHold (hr : s.slots[i] = some r) (len : Ticks) : TableMove s (s.raiseHold i r len) := by
  unfold State.raiseHold
  dsimp only
  split
  · exact .setSlot hr ⟨⟨rfl, rfl, rfl, rfl⟩, ⟨rfl, rfl, rfl⟩, id⟩
  · exact .setLease (r' := { r with holdCount := r.holdCount + 1 }) hr ⟨⟨rfl, rfl, rfl, rfl⟩, ⟨rfl, rfl, rfl⟩, id⟩ len

theorem TableMove.answerRetired (s : State) (ws : List ParkedClaim) (b : HoldBlock) :
    TableMove s (s.answerRetired ws b) := .same ⟨by simp, by simp, by simp⟩

/-! ### The eviction of a port -/

theorem TableMove.endHolds (s : State) (slots : List Slot) : TableMove s (s.endHolds slots) := by
  induction slots generalizing s with
  | nil => exact .refl s
  | cons i slots ih => exact (TableMove.endHold s i false).trans (ih _)

theorem TableMove.evictClaims (s : State) (fills : Bool) (cs : List (Slot × ParkedClaim)) :
    TableMove s (s.evictClaims fills cs) := by
  induction cs generalizing s with
  | nil => exact .refl s
  | cons c cs ih =>
    refine TableMove.trans ?_ (ih _)
    unfold State.evictClaim
    dsimp only
    split
    · exact (TableMove.withdrawClaim s _ _).trans (.fill _ _ _)
    · exact .withdrawClaim s _ _

theorem State.dropPortWatches_at (s : State) (p : PortId) (i : Slot) : (s.dropPortWatches p).slots[i] =
    s.slots[i].map fun r => { r with watchers := r.watchers.set p none } := by
  simp [State.dropPortWatches, vmap]

theorem TableMove.dropPortWatches (s : State) (p : PortId) : TableMove s (s.dropPortWatches p) := by
  have mapped {α : Type} (g : Record → α) (hg : ∀ r : Record, g { r with watchers := r.watchers.set p none } = g r)
      (i : Slot) : (s.dropPortWatches p).slots[i].map g = s.slots[i].map g := by
    rw [State.dropPortWatches_at, Option.map_map]
    exact congrArg (fun k => Option.map k s.slots[i]) (funext hg)
  refine ⟨⟨fun hs => ⟨hs.1.congr (by simp) (mapped _ fun _ => rfl), hs.2.congr (by simp) (mapped _ fun _ => rfl)⟩,
    fun _ x => State.homeKey_congr (by simp) x (mapped _ fun _ => rfl),
    fun x hx => by rwa [State.home_congr (s := s) (by simp)]⟩, fun i r' hr' => ?_⟩
  rw [State.dropPortWatches_at] at hr'
  obtain ⟨r, hr, rfl⟩ := Option.map_eq_some_iff.1 hr'
  exact ⟨r, hr, ⟨rfl, rfl, rfl, rfl⟩, ⟨rfl, rfl, rfl⟩, id⟩

theorem TableMove.evict (s : State) (p : PortId) (fills : Bool) : TableMove s (s.evict p fills) := by
  have claims : TableMove s ((s.endHolds (s.heldSlots p)).evictClaims fills
      ((s.endHolds (s.heldSlots p)).claimsOf p)) := (TableMove.endHolds s _).trans (.evictClaims _ fills _)
  have work : TableMove s (s.evictWork p fills) :=
    claims.congr ⟨by simp [State.evictWork], by simp [State.evictWork], by simp [State.evictWork]⟩
  exact (work.trans (.dropPortWatches _ p)).congr ⟨by simp [State.evict], by simp [State.evict], by simp [State.evict]⟩

end Sys2Proof.Machine
end

section
/-! PROOFS. How records change (O4), and that every step keeps the index and the homes in agreement with the table
(O6). -/

namespace Sys2Proof.Machine

variable {s t u : State} {p : PortId} {f : RequestFrame} {i : Slot} {r : Record} {c : Instr}

/-! ### A new record (R12, R111) -/

theorem State.install_at (s : State) (i j : Slot) (r : Record) :
    (s.install i r).slots[j] = if i = j then some r else s.slots[j] := by
  unfold State.install
  dsimp only
  split <;> exact vector_set_at _ _ _ _

theorem State.install_home (s : State) (i : Slot) (r : Record) (x : HomeId) :
    (s.install i r).home x = if r.home = some x then .occupied i else s.home x := by
  unfold State.install
  cases hr : r.home with
  | none => simp [State.home]
  | some h =>
    dsimp only
    rw [State.setHome_at]
    simp only [Option.some.injEq, eq_comm]
    rfl

theorem HomesSound.install (h : HomesSound s) (hi : s.slots[i] = none)
    (hr : ∀ x ∈ r.home, (s.home x).slot? = none) : HomesSound (s.install i r) := by
  obtain ⟨named, occupies⟩ := h
  refine ⟨fun g k j hj => ?_, fun j x hx y hy => ?_⟩
  · rw [State.install_home] at hj
    split at hj
    · rename_i home
      obtain rfl := Option.mem_some_iff.1 hj
      rw [State.install_at, if_pos rfl, Option.map_some, home]
    · have stands := named g k j hj
      rw [State.install_at, if_neg]
      · exact stands
      · rintro rfl
        simp [hi] at stands
  · rw [State.install_at] at hx
    rw [State.install_home]
    split at hx
    · subst j
      obtain rfl := Option.mem_some_iff.1 hx
      rw [if_pos (Option.mem_def.1 hy)]
    · have at_j := occupies j x hx y hy
      rw [if_neg, at_j]
      intro home
      have free := hr y home
      rw [at_j] at free
      cases free

/-! ### The choice of a home (R11) -/

theorem State.chooseHome_some {k : Key} {h : HomeId} (hc : s.chooseHome k = some h) :
    s.home h = .vacated k ∨ s.home h = .free := by
  unfold State.chooseHome at hc
  split at hc
  · rename_i x hx
    cases hc
    exact .inl (by simpa using List.find?_some hx)
  · have free := List.find?_some hc
    simp only [Bool.and_eq_true, decide_eq_true_eq] at free
    exact .inr free.1.1

theorem State.chooseHome_unoccupied {k : Key} {h : HomeId} (hc : s.chooseHome k = some h) :
    (s.home h).slot? = none := by
  obtain e | e := State.chooseHome_some hc <;> rw [e] <;> rfl

/-! ### The effects of an item on the table -/

theorem createIn_table (p : PortId) (f : RequestFrame) (s : State) (i : Slot) (g : Guard) (h : Option HomeId) :
    SameTable (s.install i (createdRecord f.key g (createOperands f) h)) (createIn p f s i g h) :=
  ⟨by simp [createIn], by simp [createIn], by simp [createIn]⟩

theorem TableSound.created (hs : TableSound s) {g : Guard} {h : Option HomeId} (key : isRecordKey f.key = true)
    (absent : s.lookup f.key = none) (free : s.freeSlot = some i) (home : ∀ x ∈ h, s.chooseHome f.key = some x) :
    TableSound (createIn p f s i g h) := by
  obtain ⟨slots, index, homes⟩ := createIn_table p f s i g h
  exact TableSound.eqs ⟨hs.1.install (State.freeSlot_some free) (hs.1.lookup_none absent) (isRecordKey_iff.1 key),
    hs.2.install (State.freeSlot_some free) fun x hx => State.chooseHome_unoccupied (home x hx)⟩ slots index homes

/-- R22, R25: a record changed in place, its watchers told and its group marked dirty. -/
theorem HomesMove.changed {r' : Record} (hr : s.slots[i] = some r) (hk : r'.key = r.key) (hh : r'.home = r.home)
    (w : Vector (Option Interest) 4) (wants : Interest → Bool) (n : Notice) (x : Record) :
    HomesMove s (((s.setSlot i (some r')).notifyWatchers w wants n).dirtyMarkOf x) :=
  (HomesMove.setSlot hr hk hh).trans
    (TableMove.same (s := s.setSlot i (some r')) ⟨by simp, by simp, by simp⟩).toHomesMove

theorem HomesMove.changeGuard (hr : s.slots[i] = some r) (g : Guard) : HomesMove s (s.changeGuard i r g) := by
  unfold State.changeGuard
  split
  · exact (TableMove.refl s).toHomesMove
  · exact .changed (r' := { r with guard := g, generation := r.generation + 1 }) hr rfl rfl _ _ _ r

theorem HomesMove.leaveValue (hr : s.slots[i] = some r) (v : Word) : HomesMove s (s.leaveValue i r v) := by
  unfold State.leaveValue
  split
  · exact (TableMove.refl s).toHomesMove
  · exact .changed (r' := { r with value := v, generation := r.generation + 1 }) hr rfl rfl _ _ _ r

/-- What a request makes of the table: a new record, a changed guard or value, or a move. -/
theorem Served.table (h : Served p f s u) : TableMove s u
    ∨ (∃ i r g a, s.slots[i] = some r ∧ u = (s.changeGuard i r g).answer p f a)
    ∨ (∃ i r v a, s.slots[i] = some r ∧ u = (s.leaveValue i r v).answer p f a)
    ∨ ∃ i g h, isRecordKey f.key = true ∧ s.lookup f.key = none ∧ s.freeSlot = some i
        ∧ (∀ x ∈ h, s.chooseHome f.key = some x) ∧ u = createIn p f s i g h := by
  have at' {i r} (found : s.lookup f.key = some (i, r)) : s.slots[i] = some r := (State.lookup_some found).1
  cases h with
  | created i g h key absent bounds free home => exact .inr (.inr (.inr ⟨i, g, h, key, absent, free, home, rfl⟩))
  | guarded i r g a found => exact .inr (.inl ⟨i, r, g, a, at' found, rfl⟩)
  | updated i r v a found => exact .inr (.inr (.inl ⟨i, r, v, a, at' found, rfl⟩))
  | answered a => exact .inl ((TableMove.refl s).answer p f a)
  | retiredNow i r found live own =>
    have unheld := (TableMove.removeDeadline s r.lease).trans (TableMove.setSlot (i := i) (r := r)
      (r' := { r with holder := none, holdCount := 0, lease := none, waiters := [] }) (by simpa using at' found)
      ⟨⟨rfl, rfl, rfl, rfl⟩, ⟨rfl, rfl, rfl⟩, id⟩)
    exact .inl (((unheld.trans (.answerRetired _ r.waiters _)).trans (.remove _ i)).answer p f _)
  | retiredLater i r h found live held other =>
    have retiring := (TableMove.setSlot (r := r) (r' := { r with state := .retiring, waiters := [] }) (at' found)
      ⟨⟨rfl, rfl, rfl, rfl⟩, ⟨rfl, rfl, rfl⟩, fun _ => rfl⟩).trans
      (.answerRetired _ r.waiters (s.holdBlock { r with state := .retiring, waiters := [] }))
    exact .inl (TableMove.answer (retiring.congr ⟨by simp, by simp, by simp⟩) p f _)
  | granted i r len a found =>
    exact .inl (TableMove.answer ((TableMove.grant (at' found) (.refl r) p len).trans (.notifyHolder _ i)) p f a)
  | raised i r len a found => exact .inl ((TableMove.raiseHold (at' found) len).answer p f a)
  | parked i r h mode found =>
    have waits : TableMove s (s.addWait p r.key mode) := .same ⟨by simp, by simp, by simp⟩
    have joined := waits.trans (TableMove.setSlot (i := i) (r := r)
      (r' := { r with waiters := r.waiters ++ [⟨p, f.tag, r.key, claimLease f, s.parkWait mode⟩] })
      (by simpa using at' found) ⟨⟨rfl, rfl, rfl, rfl⟩, ⟨rfl, rfl, rfl⟩, id⟩)
    exact .inl (joined.congr ⟨rfl, rfl, rfl⟩)
  | lowered i r n a found =>
    exact .inl (TableMove.answer (TableMove.setSlot (r' := { r with holdCount := n }) (at' found)
      ⟨⟨rfl, rfl, rfl, rfl⟩, ⟨rfl, rfl, rfl⟩, id⟩) p f a)
  | released i r a found held => exact .inl ((TableMove.endHold s i false).answer p f a)
  | renewed i r len a found => exact .inl ((TableMove.setLease (at' found) (.refl r) len).answer p f a)
  | cancelled i r w a => exact .inl ((TableMove.endClaim s i w _).answer p f a)
  | rewatched i r x a found | watched i r x a found =>
    refine .inl (TableMove.answer ((TableMove.setSlot (r := r) (r' := { r with watchers := r.watchers.set p (some x) })
      (at' found) ⟨⟨rfl, rfl, rfl, rfl⟩, ⟨rfl, rfl, rfl⟩, id⟩).congr ?_) p f a)
    exact ⟨rfl, rfl, rfl⟩
  | unwatched i r a found =>
    refine .inl (TableMove.answer ((TableMove.setSlot (r := r) (r' := { r with watchers := r.watchers.set p none })
      (at' found) ⟨⟨rfl, rfl, rfl, rfl⟩, ⟨rfl, rfl, rfl⟩, id⟩).congr ?_) p f a)
    exact ⟨rfl, rfl, rfl⟩
  | gated g a => exact .inl (TableMove.answer (s := s) (t := s.modifyPort p (gatedPort f.tag g)) (.same ⟨rfl, rfl, rfl⟩) p f a)
  | synced => exact .inl (.same ⟨rfl, rfl, rfl⟩)
  | promoted => exact .inl (.same ⟨rfl, rfl, rfl⟩)
  | evicted v a => exact .inl ((TableMove.evict s v true).answer p f a)
  | cleared g a => exact .inl (TableMove.answer (s := s) (t := s.clearFault g) (.same ⟨rfl, rfl, rfl⟩) p f a)

/-- Only a CREATE gives a home a new key. -/
theorem Served.homesMove (h : Served p f s u) : HomesMove s u
    ∨ ∃ i g h, isRecordKey f.key = true ∧ s.lookup f.key = none ∧ s.freeSlot = some i
        ∧ (∀ x ∈ h, s.chooseHome f.key = some x) ∧ u = createIn p f s i g h := by
  obtain moves | ⟨i, r, g, a, hr, rfl⟩ | ⟨i, r, v, a, hr, rfl⟩ | created := h.table
  · exact .inl moves.toHomesMove
  · exact .inl ((HomesMove.changeGuard hr g).trans (TableMove.fill _ p _).toHomesMove)
  · exact .inl ((HomesMove.leaveValue hr v).trans (TableMove.fill _ p _).toHomesMove)
  · exact .inr created

theorem Served.tableSound (h : Served p f s u) (hs : TableSound s) : TableSound u := by
  obtain moves | ⟨i, g, h, key, absent, free, home, rfl⟩ := h.homesMove
  · exact moves.sound hs
  · exact hs.created key absent free home

/-! ### Homes settled at a commit (R100) -/

theorem settleRow_at (row : Vector Home 16) (noted : List (Fin 16)) (h : Fin 16) :
    (settleRow row noted)[h] = if h ∈ noted then settleHome row[h] else row[h] := by
  induction noted generalizing row with
  | nil => simp [settleRow]
  | cons k noted ih =>
    rw [settleRow, ih, vector_set_at]
    have twice (x : Home) : settleHome (settleHome x) = settleHome x := by cases x <;> rfl
    by_cases hk : k = h
    · subst k
      simp [twice]
    · simp [hk, Ne.symm hk]

theorem State.settleHomes_home (s : State) (g : GroupId) (noted : List (Fin 16)) (x : HomeId) :
    (s.settleHomes g noted).home x =
      if x.group = g ∧ x.home ∈ noted then settleHome (s.home x) else s.home x := by
  obtain ⟨g', h⟩ := x
  rw [State.home, State.settleHomes]
  dsimp only
  rw [vector_set_at]
  by_cases hg : g = g'
  · subst g'
    rw [if_pos rfl, settleRow_at]
    simp [State.home]
  · simp [hg, Ne.symm hg, State.home]

theorem settleHome_slot (h : Home) : (settleHome h).slot? = h.slot? := by cases h <;> rfl

theorem State.settleHomes_slot (s : State) (g : GroupId) (noted : List (Fin 16)) (x : HomeId) :
    ((s.settleHomes g noted).home x).slot? = (s.home x).slot? := by
  rw [State.settleHomes_home]
  split
  · exact settleHome_slot _
  · rfl

theorem slot_some {h : Home} : h.slot? = some i ↔ h = .occupied i := by
  cases h <;> simp [Home.slot?]

theorem TableSound.settled (hs : TableSound s) (g : GroupId) (noted : List (Fin 16)) :
    TableSound (s.settleHomes g noted) := by
  refine ⟨hs.1.eqs rfl rfl, fun g' k j hj => ?_, fun j x hx y hy => ?_⟩
  · rw [State.settleHomes_slot] at hj
    exact hs.2.1 g' k j hj
  · rw [← slot_some, State.settleHomes_slot, slot_some]
    exact hs.2.2 j x hx y hy

theorem Handled.table {e : Event} (h : Handled s e u) : TableMove s u
    ∨ ∃ g noted, e = .committed g noted ∧ SameTable (s.settleHomes g noted) u := by
  cases h with
  | discarded => exact .inl (.refl s)
  | leaseExpired key p n i => exact .inl (.endHold s i true)
  | waitExpired key p n i r w => exact .inl (.endClaim s i w _)
  | evicted p => exact .inl (.evict s p false)
  | captured => exact .inl (.same ⟨rfl, rfl, rfl⟩)
  | committed g noted =>
    refine .inr ⟨g, noted, rfl, ?_⟩
    unfold State.commitGroup
    exact ⟨by simp, by simp, by simp⟩
  | faulted g => exact .inl (.same ⟨by simp, by simp, by simp⟩)

theorem Handled.tableSound {e : Event} (h : Handled s e u) (hs : TableSound s) : TableSound u := by
  obtain moves | ⟨g, noted, rfl, slots, index, homes⟩ := h.table
  · exact moves.sound hs
  · exact (hs.settled g noted).eqs slots index homes

/-! ### Restore (R111, R112) -/

/-- What one home image of a restore comes to. -/
theorem State.restoreHome_cases (s : State) (m : Memory) (g : GroupId) (h : Fin 16) : s.restoreHome m g h = s
    ∨ (∃ i r, imageRecord m g h = some r ∧ s.lookup r.key = none ∧ s.freeSlot = some i
        ∧ s.restoreHome m g h = s.install i r)
    ∨ s.restoreHome m g h = s.setHome ⟨g, h⟩ (.vacated (imageKey m h)) := by
  unfold State.restoreHome
  split
  · split
    · rename_i r i hr hl hf
      exact .inr (.inl ⟨i, r, hr, (congrArg s.lookup (imageRecord_key hr).1).trans hl, hf, rfl⟩)
    · exact .inr (.inr rfl)
  · exact .inl rfl

theorem State.restoreHome_stands (hr : s.slots[i] = some r) (m : Memory) (g : GroupId) (h : Fin 16) :
    (s.restoreHome m g h).slots[i] = some r := by
  obtain e | ⟨j, x, _, _, free, e⟩ | e := s.restoreHome_cases m g h <;> rw [e]
  · exact hr
  · rw [State.install_at, if_neg]
    · exact hr
    · rintro rfl
      simp [State.freeSlot_some free] at hr
  · exact hr

theorem State.restoreHomes_stands (hr : s.slots[i] = some r) (m : Memory) (g : GroupId) (hs : List (Fin 16)) :
    (s.restoreHomes m g hs).slots[i] = some r := by
  induction hs generalizing s with
  | nil => exact hr
  | cons h hs ih => exact ih (State.restoreHome_stands hr m g h)

theorem State.restoreGroups_stands (hr : s.slots[i] = some r) (gs : List GroupId) :
    (s.restoreGroups gs).slots[i] = some r := by
  induction gs generalizing s with
  | nil => exact hr
  | cons g gs ih =>
    refine ih ?_
    unfold State.restoreGroup
    dsimp only
    split
    · exact hr
    · exact State.restoreHomes_stands (by exact hr) _ _ _

theorem imageRecord_home {m : Memory} {g : GroupId} {h : Fin 16} (hr : imageRecord m g h = some r) :
    r.home = some ⟨g, h⟩ := by
  unfold imageRecord at hr
  split at hr
  · cases hr
  · dsimp only at hr
    split at hr
    · cases hr; rfl
    · cases hr

theorem State.restoreHome_home (s : State) (m : Memory) (g : GroupId) (h : Fin 16) {x : HomeId} (hx : x ≠ ⟨g, h⟩) :
    (s.restoreHome m g h).home x = s.home x := by
  obtain e | ⟨j, r, hr, _, _, e⟩ | e := s.restoreHome_cases m g h <;> rw [e]
  · rw [State.install_home, imageRecord_home hr, if_neg (by simpa using Ne.symm hx)]
  · rw [State.setHome_at, if_neg hx]

theorem TableSound.restoreHome (hs : TableSound s) (m : Memory) (g : GroupId) (h : Fin 16)
    (free : s.home ⟨g, h⟩ = .free) : TableSound (s.restoreHome m g h) := by
  obtain e | ⟨i, r, hr, absent, hi, e⟩ | e := s.restoreHome_cases m g h <;> rw [e]
  · exact hs
  · refine ⟨hs.1.install (State.freeSlot_some hi) (hs.1.lookup_none absent) (imageRecord_key hr).2,
      hs.2.install (State.freeSlot_some hi) fun x hx => ?_⟩
    rw [imageRecord_home hr, Option.mem_some_iff] at hx
    rw [← hx, free]
    rfl
  · refine ⟨hs.1.eqs (by simp) (by simp), fun g' k j hj => ?_, fun j x hx y hy => ?_⟩
    · rw [State.setHome_at] at hj
      split at hj
      · cases hj
      · exact hs.2.1 g' k j hj
    · have stands := hs.2.2 j x hx y hy
      rw [State.setHome_at, if_neg]
      · exact stands
      · rintro rfl
        rw [free] at stands
        cases stands

theorem TableSound.restoreHomes (hs : TableSound s) (m : Memory) (g : GroupId) {ks : List (Fin 16)}
    (hk : ks.Nodup) (free : ∀ k ∈ ks, s.home ⟨g, k⟩ = .free) : TableSound (s.restoreHomes m g ks)
      ∧ ∀ x : HomeId, x.group ≠ g → (s.restoreHomes m g ks).home x = s.home x := by
  induction ks generalizing s with
  | nil => exact ⟨hs, fun _ _ => rfl⟩
  | cons k ks ih =>
    obtain ⟨fresh, hk⟩ := List.nodup_cons.1 hk
    have other {x : HomeId} (hx : x ≠ ⟨g, k⟩) := s.restoreHome_home m g k hx
    obtain ⟨sound, frame⟩ := ih (hs.restoreHome m g k (free k List.mem_cons_self)) hk fun j hj => by
      rw [other (by simpa using fun e : j = k => fresh (e ▸ hj))]
      exact free j (List.mem_cons_of_mem _ hj)
    refine ⟨sound, fun x hx => (frame x hx).trans (other fun e => hx ?_)⟩
    rw [e]

theorem TableSound.restoreGroups (hs : TableSound s) {gs : List GroupId} (hg : gs.Nodup)
    (free : ∀ g ∈ gs, ∀ k : Fin 16, s.home ⟨g, k⟩ = .free) : TableSound (s.restoreGroups gs) := by
  induction gs generalizing s with
  | nil => exact hs
  | cons g gs ih =>
    obtain ⟨fresh, hg⟩ := List.nodup_cons.1 hg
    have restored : TableSound (s.restoreGroup g)
        ∧ ∀ x : HomeId, x.group ≠ g → (s.restoreGroup g).home x = s.home x := by
      unfold State.restoreGroup
      dsimp only
      split
      · exact ⟨hs.eqs rfl rfl rfl, fun _ _ => rfl⟩
      · exact TableSound.restoreHomes (s := s.setGroup g _) (hs.eqs rfl rfl rfl) _ g (List.nodup_finRange 16)
          fun k _ => free g List.mem_cons_self k
    refine ih restored.1 hg fun g' hg' k => ?_
    rw [restored.2 _ fun e => fresh (e ▸ hg')]
    exact free g' (List.mem_cons_of_mem _ hg') k

end Sys2Proof.Machine
end

section
/-! PROOFS. How records change (O4), and that every step keeps the index and the homes in agreement with the table
(O6). -/

namespace Sys2Proof.Machine

variable {s t u : State} {p : PortId} {f : RequestFrame} {i : Slot} {r : Record} {c : Instr}

/-! ### How a record changes (R2 to R4) -/

/-- R2 to R4: what can become of a record that stands. -/
def Record.Changes (r r' : Record) : Prop :=
  (r'.key = r.key ∧ r'.home = r.home ∧ r'.floor = r.floor ∧ r'.ceiling = r.ceiling)
    ∧ (r.state = .retiring → r'.state = .retiring)
    ∧ (if r'.value = r.value ∧ r'.guard = r.guard then r'.generation = r.generation
       else r'.generation = r.generation + 1)

theorem Record.Stays.changes {r' : Record} (h : r.Stays r') : r.Changes r' := by
  obtain ⟨fixed, ⟨guard, value, generation⟩, retiring⟩ := h
  exact ⟨fixed, retiring, by rw [if_pos ⟨value, guard⟩]; exact generation⟩

/-- R2 to R4: each record that stands before and after has changed as they allow. -/
def RecordsChange (s t : State) : Prop :=
  ∀ (i : Slot) (r r' : Record), s.slots[i] = some r → t.slots[i] = some r' → r.Changes r'

theorem RecordsChange.of_slots (h : t.slots = s.slots) : RecordsChange s t := fun i r r' hr hr' => by
  rw [h, hr] at hr'
  cases hr'
  exact (Record.Stays.refl r).changes

theorem TableMove.change (h : TableMove s t) : RecordsChange s t := fun i r r' hr hr' => by
  obtain ⟨r₀, hr₀, stays⟩ := h.records i r' hr'
  rw [Option.mem_def, hr] at hr₀
  cases hr₀
  exact stays.changes

theorem RecordsChange.set {x : Option Record} (hr : s.slots[i] = some r) (hx : ∀ r' ∈ x, r.Changes r')
    (ht : t.slots = s.slots.set i x) : RecordsChange s t := fun j a b ha hb => by
  rw [ht, vector_set_at] at hb
  split at hb
  · subst j
    rw [hr] at ha
    cases ha
    exact hx b hb
  · rw [ha] at hb
    cases hb
    exact (Record.Stays.refl a).changes

theorem RecordsChange.changeGuard (hr : s.slots[i] = some r) (g : Guard) (p : PortId) (f : RequestFrame)
    (a : Answer) : RecordsChange s ((s.changeGuard i r g).answer p f a) := by
  unfold State.changeGuard
  split
  · exact .of_slots (by simp)
  · rename_i other
    refine .set (x := some { r with guard := g, generation := r.generation + 1 }) hr (fun r' hr' => ?_) (by simp)
    cases hr'
    exact ⟨⟨rfl, rfl, rfl, rfl⟩, id, by rw [if_neg fun h => other h.2]⟩

theorem RecordsChange.leaveValue (hr : s.slots[i] = some r) (v : Word) (p : PortId) (f : RequestFrame)
    (a : Answer) : RecordsChange s ((s.leaveValue i r v).answer p f a) := by
  unfold State.leaveValue
  split
  · exact .of_slots (by simp)
  · rename_i other
    refine .set (x := some { r with value := v, generation := r.generation + 1 }) hr (fun r' hr' => ?_) (by simp)
    cases hr'
    exact ⟨⟨rfl, rfl, rfl, rfl⟩, id, by rw [if_neg fun h => other h.1]⟩

theorem Served.change (h : Served p f s u) : RecordsChange s u := by
  obtain moves | ⟨i, r, g, a, hr, rfl⟩ | ⟨i, r, v, a, hr, rfl⟩ | ⟨i, g, home, _, _, free, _, rfl⟩ := h.table
  · exact moves.change
  · exact .changeGuard hr g p f a
  · exact .leaveValue hr v p f a
  · intro j r r' hr hr'
    rw [(createIn_table p f s i g home).1, State.install_at, if_neg] at hr'
    · rw [hr] at hr'
      cases hr'
      exact (Record.Stays.refl r).changes
    · rintro rfl
      simp [State.freeSlot_some free] at hr

theorem Handled.change {e : Event} (h : Handled s e u) : RecordsChange s u := by
  obtain moves | ⟨g, noted, _, slots, _, _⟩ := h.table
  · exact moves.change
  · exact .of_slots slots

theorem RecordsChange.cleared (s : State) (ph : RunState) : RecordsChange t (s.cleared ph) := fun i r r' _ hr' => by
  simp [State.cleared, State.reset] at hr'

theorem Ran.change (h : Ran s c t) : RecordsChange s t := by
  cases h with
  | idle => exact .of_slots rfl
  | request _ p f u row item served =>
    intro i r r' hr hr'
    exact served.change i r r' hr (by simpa using hr')
  | event _ e u row item handled =>
    intro i r r' hr hr'
    exact handled.change i r r' hr (by simpa using hr')
  | reset => exact .cleared _ _
  | powerLost => exact .cleared _ _
  | restored v0 v1 v2 v3 =>
    intro i r r' hr hr'
    have stands := State.restoreGroups_stands (s := s.beginRestore.sampleStraps v0 v1 v2 v3) (r := r) hr
      (List.finRange 16)
    rw [stands] at hr'
    cases hr'
    exact (Record.Stays.refl r).changes
  | report _ a u row reported => exact .of_slots reported.frame.2.2.1
  | _ => exact .of_slots (by simp)

/-- Settles O4: the record of a slot over the cases of a command. -/
theorem recordsChangeAsR2ToR4Say : Obligations.RecordsChangeAsR2ToR4Say := fun _ _ _ h => (exec_ran h).change

/-! ### What is empty while the part is off or held in reset -/

theorem HeldSound.on (h : t.phase = .restoring ∨ t.phase = .running) : HeldSound t := fun off => by
  obtain h | h := h <;> simp [h] at off

theorem HeldSound.eqs (h : HeldSound s) (hp : t.phase = s.phase) (hs : t.slots = s.slots) (hi : t.index = s.index)
    (hh : t.homeMap = s.homeMap) (he : t.events = s.events) (hx : t.item = s.item) (hd : t.deadlines = s.deadlines)
    (hq : t.queue = s.queue) (ha : t.active = s.active) (hu : t.suspended = s.suspended)
    (ho : t.pauseOrdered = s.pauseOrdered) : HeldSound t := by
  unfold HeldSound State.home at *
  rw [hp, hs, hi, hh, he, hx, hd, hq, ha, hu, ho]
  exact h

theorem off_or_on (s : State) : (s.phase = .off ∨ s.phase = .reset) ∨ s.phase = .restoring ∨ s.phase = .running := by
  cases s.phase <;> simp

/-- While something is in progress, the part is on. -/
theorem HeldSound.on_of_item (h : HeldSound s) (hi : s.item ≠ none) : s.phase = .restoring ∨ s.phase = .running :=
  (off_or_on s).resolve_left fun off => hi (h off).2.2.2.2.1

theorem HeldSound.on_of_active (h : HeldSound s) (ha : s.active ≠ none) : s.phase = .restoring ∨ s.phase = .running :=
  (off_or_on s).resolve_left fun off => ha (h off).2.2.2.2.2.2.2.1

theorem State.item_of_request (h : s.request p = some f) : s.item ≠ none := by
  intro hi
  rw [State.request, hi] at h
  cases h

theorem State.item_of_event {e : Event} (h : s.event = some e) : s.item ≠ none := by
  intro hi
  rw [State.event, hi] at h
  cases h

theorem State.activeIn_some {ph : RewritePhase} {a : ActiveRewrite} (h : s.activeIn ph = some a) :
    s.active = some a.group ∧ s.groups[a.group].state = .rewriting ph a.attempt
      ∧ s.groups[a.group].capture = some a.capture := by
  unfold State.activeIn at h
  split at h
  · cases h
  · rename_i g hg
    split at h
    · rename_i ph' at' cap hs hc
      split at h
      · cases h
        rename_i e
        exact ⟨hg, e ▸ hs, hc⟩
      · cases h
    · cases h

theorem Reported.active {a : ActiveRewrite} (h : Reported s a u) : s.active = some a.group := by
  cases h with
  | erased phase | suspended phase | paused phase | programmed phase | switched phase | failed ph m phase =>
    exact (State.activeIn_some phase).1

theorem State.engaged_off (h : s.phase = .off ∨ s.phase = .reset) : s.engaged = s :=
  State.engaged_idle (State.client_none_of_phase (by obtain h | h := h <;> simp [h]))

/-- What every command keeps of the emptiness before a restore (R1, R78, R98, R116, R155). -/
theorem Ran.heldSound (h : Ran s c t) (hs : HeldSound s) : HeldSound t := by
  have engaged {x : State} (hp : x.phase = s.phase) (hx : HeldSound x) : HeldSound x.engaged := by
    obtain off | on := off_or_on s
    · rwa [State.engaged_off (by rwa [hp])]
    · exact .on (by simpa [hp] using on)
  have kept (hp : t.phase = s.phase) (ht : s.phase = .off ∨ s.phase = .reset → HeldSound t) : HeldSound t := by
    obtain off | on := off_or_on s
    · exact ht off
    · exact .on (by rwa [hp])
  cases h with
  | idle => exact hs
  | request _ p f u row item served =>
    exact .on (by simpa [served.frame] using hs.on_of_item (State.item_of_request item))
  | event _ e u row item handled =>
    exact .on (by simpa [handled.frame] using hs.on_of_item (State.item_of_event item))
  | reset | powerLost => exact fun _ => ⟨by simp [State.cleared, State.reset], rfl,
      by simp [State.home, State.cleared, State.reset], rfl, rfl, rfl, rfl, rfl, rfl, rfl⟩
  | restored => exact .on (.inl (by simp [State.beginRestore]))
  | restoreEnded => exact .on (.inr (by simp))
  | portReset p =>
    refine kept (by simp) fun off => ?_
    have dropped : (s.modifyPort p prstPort).raiseEviction p = s.modifyPort p prstPort := by
      unfold State.raiseEviction
      rw [if_neg]
      obtain off | off := off <;> simp [off]
    rw [dropped]
    exact hs.eqs rfl rfl rfl rfl rfl rfl rfl rfl rfl rfl rfl
  | pfwServing running => exact .on (.inr (by simpa using running))
  | ticked on => exact .on (by simpa using on.symm)
  | fellDue =>
    refine kept (by simp) fun off => ?_
    have same : s.fallDue = s := by
      unfold State.fallDue
      rw [(hs off).2.2.2.2.2.1]
    rwa [same]
  | submitted p bytes =>
    exact engaged (by simp) (hs.eqs (by simp) (by simp) (by simp) (by simp) (by simp) (by simp) (by simp) (by simp)
      (by simp) (by simp) (by simp))
  | fetchReleased p n => exact engaged rfl (hs.eqs rfl rfl rfl rfl rfl rfl rfl rfl rfl rfl rfl)
  | started running => exact .on (.inr (by simpa using running))
  | report _ a u row reported =>
    refine .on ?_
    rw [reported.frame.2.1]
    exact hs.on_of_active (by simp [reported.active])
  | _ => exact hs.eqs rfl rfl rfl rfl rfl rfl rfl rfl rfl rfl rfl

/-! ### Index and homes -/

theorem TableSound.empty (hs : ∀ i : Slot, t.slots[i] = none) (hi : t.index = [])
    (hh : ∀ h : HomeId, t.home h = .free) : TableSound t := by
  refine ⟨⟨by simp [hi], by simp [hi], fun i r hr => by simp [hs] at hr⟩, fun g k i h => ?_, fun i r hr => ?_⟩
  · rw [hh] at h
    cases h
  · rw [hs] at hr
    cases hr

theorem HeldSound.restored (hs : HeldSound s) (held : s.phase = .reset) (v0 v1 v2 v3 : Privilege) :
    TableSound ((s.beginRestore.sampleStraps v0 v1 v2 v3).restoreGroups (List.finRange 16)) := by
  obtain ⟨slots, index, homes, -⟩ := hs (.inr held)
  have empty : TableSound (s.beginRestore.sampleStraps v0 v1 v2 v3) :=
    .empty slots index fun h => homes h.group h.home
  exact empty.restoreGroups (List.nodup_finRange 16) fun g _ k => homes g k

theorem TableSound.cleared (s : State) (ph : RunState) : TableSound (s.cleared ph) :=
  .empty (by simp [State.cleared, State.reset]) rfl (by simp [State.home, State.cleared, State.reset])

theorem Ran.tableSound (h : Ran s c t) (held : HeldSound s) (hs : TableSound s) : TableSound t := by
  cases h with
  | idle => exact hs
  | request _ p f u row item served => exact (served.tableSound hs).eqs (by simp) (by simp) (by simp)
  | event _ e u row item handled => exact (handled.tableSound hs).eqs (by simp) (by simp) (by simp)
  | reset => exact .cleared _ _
  | powerLost => exact .cleared _ _
  | restored v0 v1 v2 v3 phase => exact held.restored phase v0 v1 v2 v3
  | report _ a u row reported =>
    obtain ⟨-, -, slots, index, homes, -⟩ := reported.frame
    exact hs.eqs slots index homes
  | _ => exact hs.eqs (by simp) (by simp) (by simp)

/-- The base of the other invariants: what is empty before a restore, and the agreement of index, homes and table. -/
abbrev BaseSound (s : State) : Prop := HeldSound s ∧ IndexSound s ∧ HomesSound s

theorem Ran.baseSound (h : Ran s c t) (hs : BaseSound s) : BaseSound t :=
  ⟨h.heldSound hs.1, h.tableSound hs.1 hs.2⟩

/-- Settles O6: every command keeps index and homes sound, and a step runs one. -/
theorem stepKeepsIndexAndHomes : Obligations.StepKeepsIndexAndHomes := fun _ _ hs h =>
  step_keeps (P := BaseSound) (fun _ _ h => h) (fun _ _ _ ran => ran.baseSound) hs h

end Sys2Proof.Machine
end

section
/-! PROOFS. Every step keeps every record within its bounds, and its hold, waiters and watches sound (O7). -/

namespace Sys2Proof.Machine

variable {s t u : State} {p : PortId} {f : RequestFrame} {i : Slot} {r : Record} {c : Instr}

theorem RecordsSound.eqs (h : RecordsSound s) (ht : t.slots = s.slots) : RecordsSound t := fun i => by
  rw [ht]; exact h i

theorem RecordsSound.set (h : RecordsSound s) {x : Option Record} (hx : ∀ r ∈ x, RecordSound r)
    (ht : t.slots = s.slots.set i x) : RecordsSound t := fun j r hr => by
  rw [ht, vector_set_at] at hr
  split at hr
  · exact hx r hr
  · exact h j r hr

/-! ### One record changed -/

namespace RecordSound

theorem unheld (h : RecordSound r) (hh : r.holder = none) : r.lease = none ∧ r.waiters = [] := h.2.2.2.1 hh

/-- R55, R57: a LIVE record whose hold has ended and that nobody waits for. -/
theorem ended (h : RecordSound r) (hw : r.waiters = []) (hs : r.state ≠ .retiring) :
    RecordSound { r with holder := none, holdCount := 0, lease := none } := by
  obtain ⟨bounds, -, -, -, -, nodup, few, -, watchers⟩ := h
  exact ⟨bounds, by simp, by simp, fun _ => ⟨rfl, hw⟩, fun e => absurd e hs, nodup, few, by simp [hw], watchers⟩

/-- R56: a record handed to its oldest waiter. -/
theorem passed (h : RecordSound r) {w : ParkedClaim} {rest : List ParkedClaim} (hw : r.waiters = w :: rest)
    (n : Option Serial) :
    RecordSound { r with holder := some w.port, holdCount := 1, lease := n, waiters := rest } := by
  obtain ⟨bounds, -, -, -, retiring, nodup, few, others, watchers⟩ := h
  rw [hw] at nodup few others
  obtain ⟨apart, nodup⟩ := List.nodup_cons.1 nodup
  refine ⟨bounds, by simp, by simp, by simp, fun e => ?_, nodup, Nat.le_of_succ_le few, fun x hx => ⟨?_, ?_⟩, watchers⟩
  · have := (retiring e).2
    rw [hw] at this
    cases this
  · intro e
    exact apart (Option.some.inj e ▸ List.mem_map_of_mem hx)
  · exact (others x (List.mem_cons_of_mem _ hx)).2

/-- R46: an unheld LIVE record granted. -/
theorem granted (h : RecordSound r) (hh : r.holder = none) (hs : r.state = .live) (p : PortId) (n : Option Serial) :
    RecordSound { r with holder := some p, holdCount := 1, lease := n } := by
  have none := (h.unheld hh).2
  obtain ⟨bounds, -, -, -, -, nodup, few, -, watchers⟩ := h
  exact ⟨bounds, by simp, by simp, by simp, by simp [hs], nodup, few, by simp [none], watchers⟩

/-- R47, R54, R70: a hold that stands, with another count or lease. -/
theorem heldAs (h : RecordSound r) (hh : r.holder = some p) {n : Nat} (low : 1 ≤ n) (high : n ≤ 15)
    (m : Option Serial) : RecordSound { r with holdCount := n, lease := m } := by
  obtain ⟨bounds, -, -, -, retiring, nodup, few, others, watchers⟩ := h
  exact ⟨bounds, by simp [hh, low], high, by simp [hh], retiring, nodup, few, others, watchers⟩

theorem count (h : RecordSound r) (hh : r.holder = some p) : 1 ≤ r.holdCount ∧ r.holdCount ≤ 15 :=
  ⟨h.2.1.1 (by simp [hh]), h.2.2.1⟩

/-- R17, R18: a held record without its waiters. -/
theorem deferred (h : RecordSound r) (hh : r.holder = some p) :
    RecordSound { r with state := .retiring, waiters := [] } := by
  obtain ⟨bounds, count, most, -, -, -, -, -, watchers⟩ := h
  exact ⟨bounds, count, most, by simp [hh], by simp [hh], by simp, by simp, by simp, watchers⟩

/-- R42, R50: a claim joins the waiters of a LIVE record that another port holds. -/
theorem joined (h : RecordSound r) {q : PortId} (hh : r.holder = some q) (hs : r.state = .live) {w : ParkedClaim}
    (other : q ≠ w.port) (first : ∀ x ∈ r.waiters, x.port ≠ w.port) (key : w.key = r.key) :
    RecordSound { r with waiters := r.waiters ++ [w] } := by
  obtain ⟨bounds, count, most, -, -, nodup, few, others, watchers⟩ := h
  have ports : (w.port :: q :: r.waiters.map ParkedClaim.port).Nodup := by
    refine List.nodup_cons.2 ⟨?_, List.nodup_cons.2 ⟨?_, nodup⟩⟩
    · rw [List.mem_cons, List.mem_map]
      rintro (e | ⟨x, hx, e⟩)
      · exact other e.symm
      · exact first x hx e
    · rw [List.mem_map]
      rintro ⟨x, hx, e⟩
      exact (others x hx).1 (by rw [hh, e])
  have length := ports.length_le_card
  simp only [List.length_cons, List.length_map, Fintype.card_fin] at length
  refine ⟨bounds, count, most, by simp [hh], by simp [hs], ?_, ?_, fun x hx => ?_, watchers⟩
  · rw [List.map_append, List.map_singleton]
    exact (List.perm_append_singleton _ _).nodup_iff.2
      (List.nodup_cons.2 ⟨fun hm => (List.nodup_cons.1 ports).1 (List.mem_cons_of_mem _ hm), nodup⟩)
  · simp only [List.length_append, List.length_singleton]
    omega
  · obtain hx | hx := List.mem_append.1 hx
    · exact others x hx
    · rw [List.mem_singleton.1 hx, hh]
      exact ⟨fun e => other (Option.some.inj e).symm, key⟩

/-- R52: a claim leaves the waiters. -/
theorem left (h : RecordSound r) (w : ParkedClaim) : RecordSound { r with waiters := r.waiters.erase w } := by
  obtain ⟨bounds, count, most, unheld, retiring, nodup, few, others, watchers⟩ := h
  have sub : (r.waiters.erase w).Sublist r.waiters := List.erase_sublist
  exact ⟨bounds, count, most, fun e => ⟨(unheld e).1, by simp [(unheld e).2]⟩,
    fun e => ⟨(retiring e).1, by simp [(retiring e).2]⟩, (sub.map _).nodup nodup, sub.length_le.trans few,
    fun x hx => others x (sub.subset hx), watchers⟩

theorem rewatched (h : RecordSound r) (p : PortId) {x : Option Interest}
    (hx : ∀ y ∈ x, y.value ∨ y.holder ∨ y.life) : RecordSound { r with watchers := r.watchers.set p x } := by
  obtain ⟨bounds, count, most, unheld, retiring, nodup, few, others, watchers⟩ := h
  refine ⟨bounds, count, most, unheld, retiring, nodup, few, others, fun q y hy => ?_⟩
  rw [vector_set_at] at hy
  split at hy
  · exact hx y hy
  · exact watchers q y hy

/-- R9, R111: a record made within its bounds. -/
theorem made {k : Key} {h : Option HomeId} {g : Guard} {v lo hi : Word} {n : Gen} (low : lo.toInt ≤ v.toInt)
    (high : v.toInt ≤ hi.toInt) :
    RecordSound { key := k, state := .live, home := h, guard := g, value := v, floor := lo, ceiling := hi
                  generation := n, holder := none, holdCount := 0, lease := none, waiters := []
                  watchers := Vector.replicate 4 none } := by
  refine ⟨⟨low, high⟩, by simp, by simp, by simp, by simp, by simp, by simp, by simp, fun q x hx => ?_⟩
  simp at hx

end RecordSound

/-! ### The shared operations -/

/-- R55 to R57: what becomes of a record whose hold ends; `n` is the lease of the waiter that has it next. -/
def Record.passed (r : Record) (n : Option Serial) : Option Record :=
  match r.waiters with
  | w :: rest => some { r with holder := some w.port, holdCount := 1, lease := n, waiters := rest }
  | [] => if r.state = .retiring then none else some { r with holder := none, holdCount := 0, lease := none }

theorem State.passedOn_slots (s : State) (i : Slot) (r : Record) :
    ∃ n, (s.passedOn i r).slots = s.slots.set i (r.passed n) := by
  obtain ⟨key, state, home, guard, value, floor, ceiling, generation, holder, count, lease, waiters, watchers⟩ := r
  cases waiters with
  | cons w rest => exact ⟨_, rfl⟩
  | nil =>
    refine ⟨none, ?_⟩
    unfold State.passedOn Record.passed
    dsimp only
    split
    · simp [State.removed]
    · rfl

theorem RecordSound.passed_of (h : RecordSound r) {n : Option Serial} {r' : Record} (hr : r' ∈ r.passed n) :
    RecordSound r' := by
  unfold Record.passed at hr
  split at hr
  · cases hr
    exact h.passed ‹_› n
  · split at hr
    · cases hr
    · cases hr
      exact h.ended ‹_› ‹_›

theorem RecordsSound.passedOn (h : RecordsSound s) (hr : s.slots[i] = some r) : RecordsSound (s.passedOn i r) := by
  obtain ⟨n, slots⟩ := s.passedOn_slots i r
  exact h.set (fun r' hr' => (h i r hr).passed_of hr') slots

theorem RecordsSound.endHold (h : RecordsSound s) (i : Slot) : RecordsSound (s.endHold i false) := by
  cases hr : s.slots[i] with
  | none => simpa [State.endHold, hr] using h
  | some r =>
    rw [State.endHold_eq hr]
    exact h.passedOn hr

theorem RecordsSound.withdrawClaim (h : RecordsSound s) (i : Slot) (w : ParkedClaim) :
    RecordsSound (s.withdrawClaim i w) := by
  cases hr : s.slots[i] with
  | none => simpa [State.withdrawClaim, hr] using h
  | some r =>
    refine h.set (x := some { r with waiters := r.waiters.erase w }) (fun r' hr' => ?_)
      (by rw [State.withdrawClaim_eq hr])
    cases hr'
    exact (h i r hr).left w

theorem RecordsSound.endClaim (h : RecordsSound s) (i : Slot) (w : ParkedClaim) (st : Status) :
    RecordsSound (s.endClaim i w st) := (h.withdrawClaim i w).eqs (by simp [State.endClaim])

theorem RecordsSound.endHolds (h : RecordsSound s) (slots : List Slot) : RecordsSound (s.endHolds slots) := by
  induction slots generalizing s with
  | nil => exact h
  | cons i slots ih => exact ih (h.endHold i)

theorem RecordsSound.evictClaims (h : RecordsSound s) (fills : Bool) (cs : List (Slot × ParkedClaim)) :
    RecordsSound (s.evictClaims fills cs) := by
  induction cs generalizing s with
  | nil => exact h
  | cons c cs ih =>
    refine ih ((h.withdrawClaim c.1 c.2).eqs ?_)
    unfold State.evictClaim
    dsimp only
    split <;> simp

theorem RecordsSound.dropPortWatches (h : RecordsSound s) (p : PortId) : RecordsSound (s.dropPortWatches p) := by
  intro i r' hr'
  rw [State.dropPortWatches_at] at hr'
  obtain ⟨r, hr, rfl⟩ := Option.map_eq_some_iff.1 hr'
  exact (h i r hr).rewatched p (by simp)

theorem RecordsSound.evict (h : RecordsSound s) (p : PortId) (fills : Bool) : RecordsSound (s.evict p fills) := by
  have work : RecordsSound (s.evictWork p fills) :=
    ((h.endHolds (s.heldSlots p)).evictClaims fills ((s.endHolds (s.heldSlots p)).claimsOf p)).eqs
      (by simp [State.evictWork])
  exact (work.dropPortWatches p).eqs (by simp [State.evict])

theorem State.grant_slots (s : State) (i : Slot) (r : Record) (p : PortId) (len : Ticks) :
    ∃ n, (s.grant i r p len).slots = s.slots.set i (some { r with holder := some p, holdCount := 1, lease := n }) := by
  unfold State.grant
  split
  · exact ⟨_, rfl⟩
  · exact ⟨_, by simp; rfl⟩

theorem State.setLease_slots (s : State) (i : Slot) (r : Record) (len : Ticks) :
    ∃ n, (s.setLease i r len).slots = s.slots.set i (some { r with lease := n }) := by
  unfold State.setLease
  dsimp only
  split
  · exact ⟨none, by simp⟩
  · split
    · exact ⟨none, by simp⟩
    · exact ⟨_, by simp; rfl⟩

theorem State.raiseHold_slots (s : State) (i : Slot) (r : Record) (len : Ticks) : ∃ n, (s.raiseHold i r len).slots =
    s.slots.set i (some { r with holdCount := r.holdCount + 1, lease := n }) := by
  unfold State.raiseHold
  dsimp only
  split
  · exact ⟨r.lease, rfl⟩
  · exact s.setLease_slots i { r with holdCount := r.holdCount + 1 } len

theorem retireNow_slots (p : PortId) (f : RequestFrame) (s : State) (i : Slot) (r : Record) :
    (retireNow p f s i r).slots = s.slots.set i none := by
  unfold retireNow
  dsimp only
  rw [(State.answer_frame ..).2.2.1, State.remove_eq (r := { r with
    holder := none, holdCount := 0, lease := none, waiters := [] }) (by simp)]
  simp [State.removed]

theorem retireLater_slots (p : PortId) (f : RequestFrame) (s : State) (i : Slot) (r : Record) :
    (retireLater p f s i r).slots = s.slots.set i (some { r with state := .retiring, waiters := [] }) := by
  simp [retireLater]

theorem Vector.set_eq_of_at {α : Type} {n : Nat} {v : Vector α n} {i : Fin n} {x : α} (h : v[i] = x) :
    v.set i x = v := by
  subst h
  exact Vector.set_getElem_self _

theorem parkClaim_slots (s : State) (p : PortId) (f : RequestFrame) (i : Slot) (r : Record) (mode : ClaimMode) :
    (s.parkClaim p f i r mode).slots = s.slots.set i (some { r with
      waiters := r.waiters ++ [⟨p, f.tag, r.key, claimLease f, s.parkWait mode⟩] }) := by
  simp [State.parkClaim]

theorem changeGuard_slots (s : State) (hr : s.slots[i] = some r) (g : Guard) : ∃ n, (s.changeGuard i r g).slots =
    s.slots.set i (some { r with guard := g, generation := n }) := by
  unfold State.changeGuard
  split
  · rename_i e
    refine ⟨r.generation, ?_⟩
    subst e
    exact (Vector.set_eq_of_at hr).symm
  · exact ⟨r.generation + 1, by simp⟩

theorem leaveValue_slots (s : State) (hr : s.slots[i] = some r) (v : Word) : ∃ n, (s.leaveValue i r v).slots =
    s.slots.set i (some { r with value := v, generation := n }) := by
  unfold State.leaveValue
  split
  · rename_i e
    refine ⟨r.generation, ?_⟩
    subst e
    exact (Vector.set_eq_of_at hr).symm
  · exact ⟨r.generation + 1, by simp⟩

/-! ### Every command -/

theorem Served.recordsSound (h : Served p f s u) (hs : RecordsSound s) : RecordsSound u := by
  have at' {i r} (found : s.lookup f.key = some (i, r)) : s.slots[i] = some r := (State.lookup_some found).1
  have sound {i r} (found : s.lookup f.key = some (i, r)) : RecordSound r := hs i r (at' found)
  have set {i : Slot} {r : Record} {v : State} (a : Answer) (hv : v.slots = s.slots.set i (some r))
      (hr : RecordSound r) : RecordsSound (v.answer p f a) :=
    hs.set (x := some r) (fun _ h => Option.some.inj h ▸ hr) ((State.answer_frame ..).2.2.1.trans hv)
  cases h with
  | answered a => exact hs.eqs (by simp)
  | created i g h key absent bounds =>
    intro j x hx
    rw [(createIn_table p f s i g h).1, State.install_at] at hx
    split at hx
    · cases hx
      obtain ⟨-, -, low, high⟩ := createBoundsGood_fields.1 bounds
      exact .made low high
    · exact hs j x hx
  | retiredNow i r => exact hs.set (by simp) (retireNow_slots p f s i r)
  | retiredLater i r h found live held =>
    exact hs.set (x := some _) (fun _ h => Option.some.inj h ▸ (sound found).deferred held) (retireLater_slots p f s i r)
  | guarded i r g a found =>
    obtain ⟨n, slots⟩ := changeGuard_slots s (at' found) g
    exact set a slots (sound (i := i) (r := r) found)
  | updated i r v a found live within =>
    obtain ⟨n, slots⟩ := leaveValue_slots s (at' found) v
    have whole := sound (i := i) (r := r) found
    exact set a slots ⟨within whole.1, whole.2⟩
  | granted i r len a found live unheld =>
    obtain ⟨n, slots⟩ := s.grant_slots i r p len
    exact set a ((State.notifyHolder_frame ..).2.2.1.trans slots) ((sound found).granted unheld live p n)
  | raised i r len a found live held room =>
    obtain ⟨n, slots⟩ := s.raiseHold_slots i r len
    exact set a slots ((sound found).heldAs held (by omega) room n)
  | parked i r h mode found live held other first =>
    refine hs.set (x := some _) (fun x hx => ?_) (parkClaim_slots s p f i r mode)
    exact Option.some.inj hx ▸ (sound found).joined held live other first rfl
  | lowered i r n a found held left fewer =>
    obtain ⟨low, high⟩ := (sound found).count held
    exact set a (s.setSlot_slots i _) ((sound found).heldAs held left (by omega) r.lease)
  | released i r a => exact (hs.endHold i).eqs (by simp)
  | renewed i r len a found held =>
    obtain ⟨n, slots⟩ := s.setLease_slots i r len
    obtain ⟨low, high⟩ := (sound found).count held
    exact set a slots ((sound found).heldAs held low high n)
  | cancelled i r w a => exact (hs.endClaim i w .cancelled).eqs (by simp)
  | rewatched i r x a found live wants =>
    exact set a (congrArg State.slots (s.setWatch_eq p i r x false))
      ((sound found).rewatched p fun y hy => Option.some.inj hy ▸ wants)
  | watched i r x a found live wants =>
    exact set a (congrArg State.slots (s.setWatch_eq p i r x true))
      ((sound found).rewatched p fun y hy => Option.some.inj hy ▸ wants)
  | unwatched i r a found =>
    exact set a (congrArg State.slots (s.clearWatch_eq p i r)) ((sound found).rewatched p (by simp))
  | gated g a => exact hs.eqs (by simp)
  | synced => exact hs.eqs (by simp)
  | promoted => exact hs.eqs (by simp)
  | evicted v a => exact (hs.evict v true).eqs (by simp)
  | cleared g a => exact hs.eqs (by simp)

theorem Handled.recordsSound {e : Event} (h : Handled s e u) (hs : RecordsSound s) : RecordsSound u := by
  cases h with
  | discarded => exact hs
  | leaseExpired key p n i r found held =>
    have hr := (State.lookup_some found).1
    rw [State.endHold_expired hr held]
    exact RecordsSound.passedOn (s := { s with ports := _ }) (hs.eqs rfl) hr
  | waitExpired key p n i r w => exact hs.endClaim i w _
  | evicted p => exact hs.evict p false
  | captured => exact hs.eqs rfl
  | committed g noted => exact hs.eqs (by simp)
  | faulted g => exact hs.eqs (by simp)

theorem imageRecord_sound {m : Memory} {g : GroupId} {h : Fin 16} (hr : imageRecord m g h = some r) :
    RecordSound r := by
  unfold imageRecord at hr
  split at hr
  · cases hr
  · dsimp only at hr
    split at hr
    · rename_i good
      cases hr
      obtain ⟨low, high⟩ := (inBounds_iff ..).1 good.2.2
      exact .made low high
    · cases hr

theorem RecordsSound.restoreHome (h : RecordsSound s) (m : Memory) (g : GroupId) (k : Fin 16) :
    RecordsSound (s.restoreHome m g k) := by
  obtain e | ⟨i, r, hr, _, _, e⟩ | e := s.restoreHome_cases m g k <;> rw [e]
  · exact h
  · intro j x hx
    rw [State.install_at] at hx
    split at hx
    · cases hx; exact imageRecord_sound hr
    · exact h j x hx
  · exact h.eqs rfl

theorem RecordsSound.restoreHomes (h : RecordsSound s) (m : Memory) (g : GroupId) (ks : List (Fin 16)) :
    RecordsSound (s.restoreHomes m g ks) := by
  induction ks generalizing s with
  | nil => exact h
  | cons k ks ih => exact ih (h.restoreHome m g k)

theorem RecordsSound.restoreGroups (h : RecordsSound s) (gs : List GroupId) : RecordsSound (s.restoreGroups gs) := by
  induction gs generalizing s with
  | nil => exact h
  | cons g gs ih =>
    refine ih ?_
    unfold State.restoreGroup
    dsimp only
    split
    · exact h.eqs rfl
    · exact RecordsSound.restoreHomes (s := s.setGroup g _) (h.eqs rfl) _ g _

theorem RecordsSound.cleared (s : State) (ph : RunState) : RecordsSound (s.cleared ph) := fun i r hr => by
  simp [State.cleared, State.reset] at hr

theorem Ran.recordsSound (h : Ran s c t) (hs : RecordsSound s) : RecordsSound t := by
  cases h with
  | idle => exact hs
  | request _ p f u row item served => exact (served.recordsSound hs).eqs (by simp)
  | event _ e u row item handled => exact (handled.recordsSound hs).eqs (by simp)
  | reset => exact .cleared _ _
  | powerLost => exact .cleared _ _
  | restored v0 v1 v2 v3 =>
    exact RecordsSound.restoreGroups (s := s.beginRestore.sampleStraps v0 v1 v2 v3) (hs.eqs rfl) _
  | report _ a u row reported => exact hs.eqs reported.frame.2.2.1
  | _ => exact hs.eqs (by simp)

/-- Settles O7: every command keeps every record sound, and a step runs one. -/
theorem stepKeepsRecordsSound : Obligations.StepKeepsRecordsSound := fun _ _ hs h =>
  step_keeps (P := RecordsSound) (fun _ _ h => h) (fun _ _ _ ran => ran.recordsSound) hs h

end Sys2Proof.Machine
end

section
/-! SUPPORT. The banks: what a write of the spare bank leaves, when a bank is VALID or ERASED, and what a cut-off or
failed operation leaves in it (R105, R107, R128, R130). -/

namespace Sys2Proof.Machine

variable {m : Memory} {g : GroupId}

/-! ### Conditions of a bank (R105) -/

theorem Memory.getD_readBytes (m : Memory) (o : Nat) {n k : Nat} (h : k < n) :
    (m.readBytes o n).getD k 0 = m.read (o + k) := by
  simp [Memory.readBytes, h]

theorem bankErased_iff : bankErased m = true ↔ ∀ k, k < 301 → m.read k = 0xFF := by
  unfold bankErased
  rw [List.all_eq_true]
  simp only [Memory.readBytes, List.mem_map, List.mem_range, Config.bankBytes, decide_eq_true_eq]
  constructor
  · intro h k hk
    exact h _ ⟨k, hk, by rw [Nat.zero_add]⟩
  · rintro h x ⟨k, hk, rfl⟩
    rw [Nat.zero_add]
    exact h k hk

/-- R105: a bank that is VALID has its commit mark. -/
theorem mark_of_valid (h : bankValid g m = true) : m.readBytes 297 4 = commitMark := by
  simp only [bankValid, Bool.and_eq_true, decide_eq_true_eq] at h
  exact h.1.1

theorem not_valid_of_mark (h : m.readBytes 297 4 ≠ commitMark) : bankValid g m = false := by
  rw [Bool.eq_false_iff]
  exact fun valid => h (mark_of_valid valid)

theorem not_valid_of_last (h : m.read 300 = erasedByte) : bankValid g m = false := by
  refine not_valid_of_mark fun mark => ?_
  have last := congrArg (fun l : List Byte => l.getD 3 0) mark
  rw [Memory.getD_readBytes m 297 (by decide), h] at last
  exact absurd last (by decide)

theorem not_erased_of_mark (h : m.readBytes 297 4 = commitMark) : bankErased m = false := by
  rw [Bool.eq_false_iff, ne_eq, bankErased_iff]
  intro erased
  have first := congrArg (fun l : List Byte => l.getD 0 0) h
  rw [Memory.getD_readBytes m 297 (by decide), erased 297 (by decide)] at first
  exact absurd first (by decide)

theorem judgeBank_ne_valid_iff : judgeBank g m ≠ .valid ↔ bankValid g m = false := by
  unfold judgeBank
  cases he : bankErased m with
  | true =>
    have invalid : bankValid g m = false := by
      rw [Bool.eq_false_iff]
      intro valid
      rw [not_erased_of_mark (mark_of_valid valid)] at he
      cases he
    simp [invalid]
  | false => cases bankValid g m <;> simp

theorem judgeBank_valid_iff : judgeBank g m = .valid ↔ bankValid g m = true := by
  rw [← not_iff_not, Bool.not_eq_true]
  exact judgeBank_ne_valid_iff

theorem judgeBank_invalid_iff : judgeBank g m = .invalid ↔ bankErased m = false ∧ bankValid g m = false := by
  unfold judgeBank
  cases bankErased m <;> cases bankValid g m <;> simp

theorem judgeBank_erased_iff : judgeBank g m = .erased ↔ bankErased m = true := by
  unfold judgeBank
  cases bankErased m <;> cases bankValid g m <;> simp

/-! ### What a failure leaves (R107, R128, R130; log 13) -/

theorem leftNotValid_wf (g : GroupId) (draw : Nat) : (leftNotValid g draw).wf = true := by
  unfold leftNotValid
  dsimp only
  split
  · exact Memory.wf_write (Memory.wf_writeBytes Memory.wf_erased _ _) _ _
  · exact Memory.wf_writeBytes Memory.wf_erased _ _

theorem leftNotValid_not_valid (g : GroupId) (draw : Nat) : bankValid g (leftNotValid g draw) = false := by
  unfold leftNotValid
  dsimp only
  split
  · exact not_valid_of_last (Memory.read_write_same (Memory.wf_writeBytes Memory.wf_erased _ _) _ _)
  · simpa using ‹¬ bankValid g _ = true›

/-- R122: a bank whose first byte alone is programmed is INVALID. -/
theorem firstByte_invalid (hm : m.wf = true) (he : bankErased m = true) : judgeBank g (m.write 0 0) = .invalid := by
  rw [judgeBank_invalid_iff, Bool.eq_false_iff, ne_eq, bankErased_iff]
  constructor
  · intro erased
    have first := erased 0 (by decide)
    rw [Memory.read_write_same hm] at first
    exact absurd first (by decide)
  · refine not_valid_of_last ?_
    rw [Memory.read_write_other m 0 (by decide)]
    exact bankErased_iff.1 he 300 (by decide)

theorem leftInvalid_wf (g : GroupId) (draw : Nat) : (leftInvalid g draw).wf = true := by
  unfold leftInvalid
  split
  · exact Memory.wf_write Memory.wf_erased _ _
  · exact leftNotValid_wf g draw

theorem leftInvalid_not_valid (g : GroupId) (draw : Nat) : bankValid g (leftInvalid g draw) = false := by
  unfold leftInvalid
  split
  · have erased : bankErased Memory.erased = true := bankErased_iff.2 fun _ _ => rfl
    exact (judgeBank_invalid_iff.1 (firstByte_invalid (m := Memory.erased) Memory.wf_erased erased)).2
  · exact leftNotValid_not_valid g draw

theorem leftProgrammed_wf (draw : Nat) : (leftProgrammed draw).wf = true := Memory.wf_writeBytes Memory.wf_erased _ _

theorem leftProgrammed_not_valid (g : GroupId) (draw : Nat) : bankValid g (leftProgrammed draw) = false :=
  not_valid_of_last ((Memory.read_writeBytes_above Memory.erased _ (by simp [freeBytes])).trans rfl)

theorem markCutOff_wf (hm : m.wf = true) (draw : Nat) : (markCutOff m draw).wf = true := Memory.wf_writeBytes hm _ _

theorem markCutOff_image (m : Memory) (draw : Nat) : (markCutOff m draw).readBytes 0 297 = m.readBytes 0 297 :=
  Memory.readBytes_congr fun k hk => Memory.read_writeBytes_below m _ (by omega)

theorem markFailed_wf (hm : m.wf = true) (draw : Nat) : (markFailed m draw).wf = true := by
  unfold markFailed
  split
  · exact Memory.wf_write (markCutOff_wf hm draw) _ _
  · exact markCutOff_wf hm draw

theorem markFailed_not_valid (hm : m.wf = true) (g : GroupId) (draw : Nat) : bankValid g (markFailed m draw) = false := by
  unfold markFailed
  split
  · exact not_valid_of_last (Memory.read_write_same (markCutOff_wf hm draw) _ _)
  · exact not_valid_of_mark ‹_›

theorem failedBank_wf (hm : m.wf = true) (at' : Attempt) : (failedBank at' m).wf = true := by
  unfold failedBank
  split
  · exact hm
  · split
    · exact Memory.wf_write hm _ _
    · exact hm

theorem failedBank_not_valid (hm : m.wf = true) (hv : bankValid g m = false) (at' : Attempt) :
    judgeBank g (failedBank at' m) ≠ .valid := by
  unfold failedBank
  split
  · exact judgeBank_ne_valid_iff.2 hv
  · split
    · rw [firstByte_invalid hm ‹_›]
      decide
    · exact judgeBank_ne_valid_iff.2 hv

theorem failedBank_invalid (hm : m.wf = true) (hv : bankValid g m = false) :
    judgeBank g (failedBank .retry m) = .invalid := by
  unfold failedBank
  dsimp only
  split
  · exact firstByte_invalid hm ‹_›
  · exact judgeBank_invalid_iff.2 ⟨by simpa using ‹¬ bankErased m = true›, hv⟩

/-- R107, R128: what a failure can leave, before R130's condition on the second one. -/
def FailureLeaves (s : State) (a : ActiveRewrite) (m : Memory) : Prop :=
  m = leftNotValid a.group s.fresh ∨ m = leftInvalid a.group s.fresh ∨ m = leftProgrammed s.fresh
    ∨ m = markFailed (s.spareBank a.group) s.fresh

variable {s t : State} {a : ActiveRewrite}

theorem FailureLeaves.not_valid (h : FailureLeaves s a m) (hm : (s.spareBank a.group).wf = true) :
    m.wf = true ∧ bankValid a.group m = false := by
  obtain h | h | h | h := h <;> rw [h]
  · exact ⟨leftNotValid_wf _ _, leftNotValid_not_valid _ _⟩
  · exact ⟨leftInvalid_wf _ _, leftInvalid_not_valid _ _⟩
  · exact ⟨leftProgrammed_wf _, leftProgrammed_not_valid _ _⟩
  · exact ⟨markFailed_wf hm _, markFailed_not_valid hm _ _⟩

/-! ### The banks of every group (R107, R130) -/

theorem BanksSound.bank (h : BanksSound s) (g : GroupId) (which : BankId) : (s.bank g which).wf = true := by
  cases which
  · exact (h g).1
  · exact (h g).2.1

theorem BanksSound.of_banks (hw : ∀ (g : GroupId) (which : BankId), (t.bank g which).wf = true)
    (hf : ∀ g : GroupId, t.groups[g].state = .faulted → judgeBank g (t.spareBank g) = .invalid) : BanksSound t :=
  fun g => ⟨hw g .a, hw g .b, hf g⟩

/-- Banks as they were, and no group newly FAULTED. -/
theorem BanksSound.congr (h : BanksSound s) (hb : t.banks = s.banks) (hg : ∀ g : GroupId,
    t.groups[g].state = .faulted → s.groups[g].state = .faulted ∧ t.groups[g].current = s.groups[g].current) :
    BanksSound t := by
  refine .of_banks (fun g which => ?_) fun g hs => ?_
  · rw [State.bank, hb]
    exact h.bank g which
  · obtain ⟨faulted, current⟩ := hg g hs
    rw [State.spareBank, State.bank, hb, current]
    exact (h g).2.2 faulted

theorem State.setSpare_spareBank (s : State) (g : GroupId) (m : Memory) : (s.setSpare g m).spareBank g = m := by
  show (s.setSpare g m).bank g (spareOf s.groups[g].current) = m
  rw [State.setSpare_bank, if_pos ⟨rfl, rfl⟩]

theorem State.setSpare_wf (h : BanksSound s) (hm : m.wf = true) (g g' : GroupId) (which : BankId) :
    ((s.setSpare g m).bank g' which).wf = true := by
  rw [State.setSpare_bank]
  split
  · exact hm
  · exact h.bank g' which

/-- R107: the spare bank of a group written, the group being FAULTED after it only if the bank is INVALID. -/
theorem BanksSound.setSpare (h : BanksSound s) (hm : m.wf = true) (hb : t.banks = (s.setSpare g m).banks)
    (hg : t.groups[g].state = .faulted → judgeBank g m = .invalid ∧ t.groups[g].current = s.groups[g].current)
    (ho : ∀ g' : GroupId, g' ≠ g → t.groups[g'] = s.groups[g']) : BanksSound t := by
  have banks (g' : GroupId) (which : BankId) : t.bank g' which = (s.setSpare g m).bank g' which := by
    rw [State.bank, State.bank, hb]
  refine .of_banks (fun g' which => ?_) fun g' hs => ?_
  · rw [banks]
    exact State.setSpare_wf h hm g g' which
  · by_cases e : g' = g
    · subst g'
      obtain ⟨invalid, current⟩ := hg hs
      rw [State.spareBank, banks, current]
      exact (congrArg (judgeBank g) (s.setSpare_spareBank g m)).trans invalid
    · rw [ho g' e] at hs
      rw [State.spareBank, banks, State.setSpare_bank, if_neg (fun h => e h.1), ho g' e]
      exact (h g').2.2 hs

theorem State.cutOff_banks (s : State) (g : GroupId) : (s.cutOff g).banks = s.banks
    ∨ ∃ m, ((s.spareBank g).wf = true → m.wf = true) ∧ (s.cutOff g).banks = (s.setSpare g m).banks := by
  unfold State.cutOff
  split
  · exact .inr ⟨_, fun _ => leftNotValid_wf _ _, rfl⟩
  · exact .inr ⟨_, fun _ => leftNotValid_wf _ _, rfl⟩
  · exact .inr ⟨_, fun _ => leftProgrammed_wf _, rfl⟩
  · exact .inr ⟨_, fun h => markCutOff_wf h _, rfl⟩
  all_goals exact .inl rfl

/-- R107, R140: a cut-off leaves canonical banks; it meets no FAULTED group. -/
theorem BanksSound.cutOff (h : BanksSound s) (g : GroupId) : BanksSound (s.cutOff g) := by
  by_cases hf : s.groups[g].state = .faulted
  · have same : s.cutOff g = s := by rw [State.cutOff, hf]
    rwa [same]
  · obtain banks | ⟨m, hm, banks⟩ := s.cutOff_banks g
    · exact h.congr banks fun g' hs => ⟨by simpa using hs, by simp⟩
    · refine h.setSpare (hm (h.bank g _)) banks (fun hs => absurd ?_ hf) fun g' _ => by simp
      simpa using hs

end Sys2Proof.Machine
end

section
/-! SUPPORT. What an item makes of the group records and the rewrite queue, said once. -/

namespace Sys2Proof.Machine

variable {s t u : State} {p : PortId} {f : RequestFrame} {i : Slot} {r : Record} {g : GroupId} {x y : Group}

/-! ### The rewrite queue and the two rewrites (R118, R136) -/

/-- What the soundness of the rewrite queue reads of a state. -/
theorem QueueSound.eqs (h : QueueSound s) (hg : t.groups = s.groups) (hq : t.queue = s.queue)
    (ha : t.active = s.active) (hs : t.suspended = s.suspended) (hp : t.pauseOrdered = s.pauseOrdered) :
    QueueSound t := by
  unfold QueueSound at *
  rw [hg, hq, ha, hs, hp]
  exact h

/-- One group record changed to `x`, with the queue, the two rewrites and the ordered pause as they should then be. -/
theorem QueueSound.set (h : QueueSound s) (hg : t.groups = s.groups.set g x) (sound : GroupSound x)
    (nodup : t.queue.Nodup) (queued : g ∈ t.queue ↔ x.state = .queued)
    (queue : ∀ g', g' ≠ g → (g' ∈ t.queue ↔ g' ∈ s.queue))
    (suspends : t.suspended = some g ↔ x.state.phase? = some .suspended)
    (suspended : ∀ g', g' ≠ g → (t.suspended = some g' ↔ s.suspended = some g'))
    (acts : t.active = some g ↔ x.state.phase? ≠ none ∧ x.state.phase? ≠ some .suspended)
    (active : ∀ g', g' ≠ g → (t.active = some g' ↔ s.active = some g'))
    (pause : t.pauseOrdered = true → t.suspended = none
      ∧ ∃ g : GroupId, t.active = some g ∧ t.groups[g].state.phase? = some .erasing ∧ t.groups[g].suspendCount < 4) :
    QueueSound t := by
  obtain ⟨-, hqueue, hsuspended, hactive, -, hgroups⟩ := h
  have self : t.groups[g] = x := by rw [hg, vector_set_at, if_pos rfl]
  have other (g' : GroupId) (ne : g' ≠ g) : t.groups[g'] = s.groups[g'] := by
    rw [hg, vector_set_at, if_neg (Ne.symm ne)]
  have each (P : GroupId → Prop) (here : P g) (there : ∀ g', g' ≠ g → P g') (g' : GroupId) : P g' := by
    by_cases e : g' = g
    · exact e ▸ here
    · exact there g' e
  refine ⟨nodup, each _ (by rw [self]; exact queued) fun g' e => ?_, each _ (by rw [self]; exact suspends) fun g' e => ?_,
    each _ (by rw [self]; exact acts) fun g' e => ?_, pause, each _ (by rw [self]; exact sound) fun g' e => ?_⟩
  · rw [other g' e]; exact (queue g' e).trans (hqueue g')
  · rw [other g' e]; exact (suspended g' e).trans (hsuspended g')
  · rw [other g' e]; exact (active g' e).trans (hactive g')
  · rw [other g' e]; exact hgroups g'

/-- The rewrites and the pause as they were, and one group record changed within its place: neither QUEUED nor
REWRITING comes or goes but as the queue follows. -/
theorem QueueSound.setIdle (h : QueueSound s) (hg : t.groups = s.groups.set g x)
    (sound : GroupSound x) (phase : x.state.phase? = s.groups[g].state.phase?)
    (count : x.suspendCount = s.groups[g].suspendCount) (nodup : t.queue.Nodup)
    (queued : g ∈ t.queue ↔ x.state = .queued) (queue : ∀ g', g' ≠ g → (g' ∈ t.queue ↔ g' ∈ s.queue))
    (ha : t.active = s.active) (hs : t.suspended = s.suspended) (hp : t.pauseOrdered = s.pauseOrdered) :
    QueueSound t := by
  have whole := h
  obtain ⟨-, hqueue, hsuspended, hactive, hpause, hgroups⟩ := h
  refine whole.set hg sound nodup queued queue (by rw [hs, phase]; exact hsuspended g) (fun g' _ => by rw [hs])
    (by rw [ha, phase]; exact hactive g) (fun g' _ => by rw [ha]) fun ordered => ?_
  rw [hp] at ordered
  obtain ⟨none, g', act, erasing, few⟩ := hpause ordered
  refine ⟨by rw [hs, none], g', by rw [ha, act], ?_⟩
  rw [hg, vector_set_at]
  split
  · subst g'
    rw [phase, count]
    exact ⟨erasing, few⟩
  · exact ⟨erasing, few⟩

/-! ### Moves of the store -/

/-- A group record of which no rewrite, bank or wear count has changed. -/
def Group.Stays (x y : Group) : Prop :=
  y.current = x.current ∧ y.capture = x.capture ∧ y.wear = x.wear
    ∧ (∀ ph at', y.state = .rewriting ph at' ↔ x.state = .rewriting ph at')
    ∧ (y.state = .faulted → x.state = .faulted)

theorem Group.Stays.refl (x : Group) : x.Stays x := ⟨rfl, rfl, rfl, fun _ _ => Iff.rfl, id⟩

theorem Group.Stays.trans {x y z : Group} (h : x.Stays y) (h' : y.Stays z) : x.Stays z := by
  obtain ⟨hc, hp, hw, hr, hf⟩ := h
  obtain ⟨hc', hp', hw', hr', hf'⟩ := h'
  exact ⟨hc'.trans hc, hp'.trans hp, hw'.trans hw, fun ph at' => (hr' ph at').trans (hr ph at'), hf ∘ hf'⟩

/-- The queue and the rewrites are as sound after as before, and every group record stays. -/
structure StoreMove (s t : State) : Prop where
  queue : QueueSound s → QueueSound t
  groups : ∀ g : GroupId, s.groups[g].Stays t.groups[g]

theorem StoreMove.trans (h : StoreMove s t) (h' : StoreMove t u) : StoreMove s u :=
  ⟨h'.queue ∘ h.queue, fun g => (h.groups g).trans (h'.groups g)⟩

/-- The part of the state that the Store Engine works on, but for the banks. -/
def SameStore (s t : State) : Prop :=
  t.groups = s.groups ∧ t.queue = s.queue ∧ t.active = s.active ∧ t.suspended = s.suspended
    ∧ t.pauseOrdered = s.pauseOrdered

theorem StoreMove.same (h : SameStore s t) : StoreMove s t := by
  obtain ⟨groups, queue, active, suspended, pause⟩ := h
  exact ⟨fun hs => hs.eqs groups queue active suspended pause, fun g => by rw [groups]; exact .refl _⟩

theorem StoreMove.refl (s : State) : StoreMove s s := .same ⟨rfl, rfl, rfl, rfl, rfl⟩

theorem StoreMove.congr (h : StoreMove s t) (hu : SameStore t u) : StoreMove s u := h.trans (.same hu)

theorem Group.Stays.set (h : s.groups[g].Stays x) (ht : t.groups = s.groups.set g x) (g' : GroupId) :
    s.groups[g'].Stays t.groups[g'] := by
  rw [ht, vector_set_at]
  split
  · subst g'; exact h
  · exact .refl _

theorem GroupState.stays_of_not_rewriting {st st' : GroupState} (h : st.phase? = none) (h' : st'.phase? = none)
    (ph : RewritePhase) (at' : Attempt) : st' = .rewriting ph at' ↔ st = .rewriting ph at' :=
  ⟨fun e => absurd h' (by simp [e, GroupState.phase?]), fun e => absurd h (by simp [e, GroupState.phase?])⟩

theorem not_mem_of_state (hs : QueueSound s) (h : s.groups[g].state ≠ .queued) : g ∉ s.queue := fun m =>
  h ((hs.2.1 g).1 m)

/-- R119, one group record in each state. -/
theorem Group.dirtied_eq (x : Group) :
    (x.state = .clean → x.dirtied = { x with state := .queued }) ∧ (x.state = .queued → x.dirtied = x)
      ∧ (∀ ph at', x.state = .rewriting ph at' → x.dirtied = { x with dirtyAgain := true })
      ∧ (x.state = .faulted ∨ x.state = .worn → x.dirtied = { x with unpersisted := true }) := by
  obtain ⟨st, _⟩ := x
  refine ⟨?_, ?_, fun ph at' => ?_, ?_⟩
  · rintro (rfl : st = _); rfl
  · rintro (rfl : st = _); rfl
  · rintro (rfl : st = _); rfl
  · rintro ((rfl : st = _) | (rfl : st = _)) <;> rfl

/-- R119: a dirty mark of a group. -/
theorem StoreMove.dirtiedGroup (groups : t.groups = s.groups.set g s.groups[g].dirtied)
    (queue : t.queue = if s.groups[g].state = .clean then s.queue ++ [g] else s.queue)
    (ha : t.active = s.active) (hu : t.suspended = s.suspended) (hp : t.pauseOrdered = s.pauseOrdered) :
    StoreMove s t := by
  cases hst : s.groups[g].state with
  | clean =>
    have dirty := (Group.dirtied_eq s.groups[g]).1 hst
    rw [hst, if_pos rfl] at queue
    rw [dirty] at groups
    refine ⟨fun hs => ?_,
      Group.Stays.set (x := { s.groups[g] with state := .queued })
        ⟨rfl, rfl, rfl, GroupState.stays_of_not_rewriting (by rw [hst]; rfl) rfl, nofun⟩ groups⟩
    have out : g ∉ s.queue := not_mem_of_state hs (by rw [hst]; nofun)
    obtain ⟨few, capture, again, worn⟩ := hs.2.2.2.2.2 g
    rw [hst] at capture again worn
    refine hs.setIdle groups ⟨few, capture, again, by simpa using worn⟩ (by rw [hst]; rfl) rfl ?_ ?_ ?_ ha hu hp
    · rw [queue]
      exact (List.perm_append_singleton _ _).nodup_iff.2 (List.nodup_cons.2 ⟨out, hs.1⟩)
    · simp [queue]
    · intro g' ne
      simp [queue, ne]
  | queued =>
    have dirty := (Group.dirtied_eq s.groups[g]).2.1 hst
    rw [hst, if_neg nofun] at queue
    rw [dirty] at groups
    exact .same ⟨by rw [groups]; exact Vector.set_getElem_self _, queue, ha, hu, hp⟩
  | rewriting ph at' =>
    have dirty := (Group.dirtied_eq s.groups[g]).2.2.1 ph at' hst
    rw [hst, if_neg nofun] at queue
    rw [dirty] at groups
    refine ⟨fun hs => ?_, Group.Stays.set (x := { s.groups[g] with dirtyAgain := true })
      ⟨rfl, rfl, rfl, fun _ _ => Iff.rfl, id⟩ groups⟩
    obtain ⟨few, capture, again, worn⟩ := hs.2.2.2.2.2 g
    exact hs.setIdle groups ⟨few, capture, fun _ => by dsimp only; rw [hst]; nofun, worn⟩ rfl rfl
      (by rw [queue]; exact hs.1) (by rw [queue]; exact hs.2.1 g) (fun _ _ => by rw [queue]) ha hu hp
  | faulted | worn =>
    have dirty := (Group.dirtied_eq s.groups[g]).2.2.2 (by rw [hst]; decide)
    rw [hst, if_neg nofun] at queue
    rw [dirty] at groups
    exact ⟨fun hs => hs.setIdle groups (hs.2.2.2.2.2 g) rfl rfl (by rw [queue]; exact hs.1)
      (by rw [queue]; exact hs.2.1 g) (fun _ _ => by rw [queue]) ha hu hp,
      Group.Stays.set (x := { s.groups[g] with unpersisted := true }) ⟨rfl, rfl, rfl, fun _ _ => Iff.rfl, id⟩ groups⟩

/-- R119: a dirty mark. -/
theorem StoreMove.dirtied (s : State) (h : Option HomeId) : StoreMove s (s.dirtied h) :=
  match h with
  | none => .refl s
  | some h => .dirtiedGroup (g := h.group) rfl rfl rfl rfl rfl

theorem StoreMove.dirtyMarkOf (s : State) (r : Record) : StoreMove s (s.dirtyMarkOf r) := by
  rw [State.dirtyMarkOf_eq]
  exact .dirtied s r.home

/-- A sync list changed. -/
theorem StoreMove.syncs {ws : GroupId → List ParkedSync} (hg : ∀ g : GroupId, t.groups[g] = { s.groups[g] with syncs := ws g })
    (hq : t.queue = s.queue) (ha : t.active = s.active) (hs : t.suspended = s.suspended)
    (hp : t.pauseOrdered = s.pauseOrdered) : StoreMove s t := by
  refine ⟨fun h => ?_, fun g => by rw [hg]; exact .refl _⟩
  unfold QueueSound at *
  simp only [hg, hq, ha, hs, hp]
  exact h

theorem StoreMove.setSyncs (s : State) (g : GroupId) (ws : List ParkedSync) :
    StoreMove s (s.setGroup g { s.groups[g] with syncs := ws }) :=
  .syncs (ws := fun g' => if g = g' then ws else s.groups[g'].syncs) (fun g' => by
    rw [State.setGroup_groups, vector_set_at]
    split
    · subst g'; rfl
    · rfl) rfl rfl rfl rfl

theorem StoreMove.remove (s : State) (i : Slot) : StoreMove s (s.remove i) := by
  cases hr : s.slots[i] with
  | none => exact .same (by simp [State.remove, hr, SameStore])
  | some r =>
    rw [State.remove_eq hr]
    have vacated : StoreMove s (s.vacated r) := by
      unfold State.vacated
      cases r.home with
      | none => exact .refl s
      | some h => exact (StoreMove.dirtied s (some h)).congr ⟨rfl, rfl, rfl, rfl, rfl⟩
    exact vacated.congr ⟨rfl, rfl, rfl, rfl, rfl⟩

theorem StoreMove.handoff (s : State) (i : Slot) : StoreMove s (s.handoff i) := by
  unfold State.handoff
  split
  · exact .refl s
  · split
    · exact .same (by simp [SameStore])
    · split
      · exact (StoreMove.same (t := s.notifyHolder i) (by simp [SameStore])).trans (.remove _ i)
      · exact .same (by simp [SameStore])

theorem StoreMove.endHold (s : State) (i : Slot) (expired : Bool) : StoreMove s (s.endHold i expired) := by
  unfold State.endHold
  split
  · exact .refl s
  · rename_i r _
    split
    · exact (StoreMove.same (t := (s.dropHold i r).leaseLost r) (by simp [SameStore])).trans (.handoff _ i)
    · exact (StoreMove.same (t := s.dropHold i r) (by simp [SameStore])).trans (.handoff _ i)

theorem StoreMove.endHolds (s : State) (slots : List Slot) : StoreMove s (s.endHolds slots) := by
  induction slots generalizing s with
  | nil => exact .refl s
  | cons i slots ih => exact (StoreMove.endHold s i false).trans (ih _)

theorem State.withdrawSyncs_at (s : State) (p : PortId) (g : GroupId) : (s.withdrawSyncs p).groups[g] =
    { s.groups[g] with syncs := s.groups[g].syncs.filter fun w => decide (w.port ≠ p) } := by
  simp [State.withdrawSyncs, vmap]

theorem StoreMove.evict (s : State) (p : PortId) (fills : Bool) : StoreMove s (s.evict p fills) := by
  have holds := StoreMove.endHolds s (s.heldSlots p)
  have claims := holds.congr (u := (s.endHolds (s.heldSlots p)).evictClaims fills
    ((s.endHolds (s.heldSlots p)).claimsOf p)) (by simp [SameStore])
  have syncs := claims.trans (.syncs (t := State.withdrawSyncs _ p) (fun g => State.withdrawSyncs_at _ p g)
    (by simp) (by simp) (by simp) (by simp))
  exact syncs.congr (by simp [SameStore, State.evict, State.evictWork])

theorem StoreMove.answerSyncs (s : State) (g : GroupId) (which : ParkedSync → Bool) (st : Status) :
    StoreMove s (s.answerSyncs g which st) :=
  (StoreMove.setSyncs s g (s.groups[g].syncs.filter fun w => !which w)).congr (by simp [SameStore, State.answerSyncs])

theorem StoreMove.commitGroup (s : State) (g : GroupId) (noted : List (Fin 16)) :
    StoreMove s (s.commitGroup g noted) := by
  have settled : StoreMove s (s.settleHomes g noted) := .same (by simp [SameStore])
  refine (settled.trans (.answerSyncs _ g ParkedSync.captured .synced)).trans ?_
  unfold State.commitGroup State.settleWorn
  split
  · exact (StoreMove.answerSyncs _ g (fun _ => true) .storeWorn).congr (by simp [SameStore])
  · exact .refl _

/-- R134, R136: a promotion moves the group within the queue and may order a pause. -/
theorem StoreMove.promote (s : State) (g : GroupId) (h : s.groups[g].state = .queued) : StoreMove s (s.promote g) := by
  refine ⟨fun hs => ?_, fun g' => .refl _⟩
  obtain ⟨nodup, queued, suspended, active, pause, groups⟩ := hs
  have member : g ∈ s.queue := (queued g).2 h
  have perm : s.queue.Perm (g :: s.queue.erase g) := List.perm_cons_erase member
  refine ⟨perm.nodup_iff.1 nodup, fun g' => perm.mem_iff.symm.trans (queued g'), suspended, active,
    fun ordered => ?_, groups⟩
  obtain before | now := Bool.or_eq_true_iff.1 ordered
  · exact pause before
  · obtain ⟨a, act, erasing, _, none, few⟩ := State.suspends_iff.1 now
    exact ⟨none, a, act, erasing, few⟩

theorem StoreMove.parkSync (s : State) (p : PortId) (f : RequestFrame) (g : GroupId) (c : Bool) :
    StoreMove s (s.parkSync p f g c) := (StoreMove.setSyncs s g _).congr ⟨rfl, rfl, rfl, rfl, rfl⟩

/-- R131: a FAULTED group is QUEUED at the tail. -/
theorem StoreMove.clearFault (s : State) (g : GroupId) (h : s.groups[g].state = .faulted) :
    StoreMove s (s.clearFault g) := by
  refine ⟨fun hs => ?_, Group.Stays.set (g := g) (x := { s.groups[g] with state := .queued, unpersisted := false })
    ⟨rfl, rfl, rfl, GroupState.stays_of_not_rewriting (by rw [h]; rfl) rfl, nofun⟩ rfl⟩
  have out : g ∉ s.queue := not_mem_of_state hs (by rw [h]; nofun)
  obtain ⟨few, capture, again, worn⟩ := hs.2.2.2.2.2 g
  rw [h] at capture again worn
  refine hs.setIdle (g := g) rfl ⟨few, capture, again, by simpa using worn⟩ (by rw [h]; rfl) rfl ?_ ?_ ?_ rfl rfl rfl
  · exact (List.perm_append_singleton _ _).nodup_iff.2 (List.nodup_cons.2 ⟨out, hs.1⟩)
  · simp [State.clearFault]
  · intro g' ne
    simp [State.clearFault, ne]

/-! ### Moves of an item -/

theorem Served.storeMove (h : Served p f s u) : StoreMove s u := by
  have answer {t : State} (h : StoreMove s t) (a : Answer) : StoreMove s (t.answer p f a) :=
    h.congr (by simp [SameStore])
  cases h with
  | answered a => exact answer (.refl s) a
  | created i g h =>
    exact answer ((StoreMove.same (t := s.install i (createdRecord f.key g (createOperands f) h))
      (by simp [SameStore])).trans (.dirtyMarkOf _ _)) _
  | retiredNow i r =>
    refine answer (StoreMove.trans (t := State.answerRetired _ r.waiters ⟨none, 0, none, 0⟩) ?_ (.remove _ i)) _
    exact .same (by simp [SameStore])
  | retiredLater i r => exact .same (by simp [SameStore, retireLater])
  | guarded i r g a =>
    refine answer ?_ a
    unfold State.changeGuard
    split
    · exact .refl s
    · refine StoreMove.trans ?_ (.dirtyMarkOf _ r)
      exact .same (by simp [SameStore])
  | updated i r v a =>
    refine answer ?_ a
    unfold State.leaveValue
    split
    · exact .refl s
    · refine StoreMove.trans ?_ (.dirtyMarkOf _ r)
      exact .same (by simp [SameStore])
  | released i r a => exact answer (.endHold s i false) a
  | synced g => exact .parkSync s p f g _
  | promoted g queued =>
    refine (StoreMove.parkSync s p f g false).trans (.promote _ g ?_)
    rw [State.parkSync_eq]
    dsimp only
    rw [vector_set_at, if_pos rfl]
    exact queued
  | evicted v a => exact answer (.evict s v true) a
  | cleared g a faulted => exact answer (.clearFault s g faulted) a
  | _ => exact .same (by simp [SameStore])

/-- R121: the capture event moves its group from CAPTURED to ERASING; the other events leave the rewrites. -/
theorem Handled.storeMove {e : Event} (h : Handled s e u) : StoreMove s u
    ∨ ∃ g at', e = .capture g ∧ s.groups[g].state = .rewriting .captured at' ∧ s.groups[g].capture = none
      ∧ u = s.setGroup g { s.groups[g] with
        state := .rewriting .erasing at', capture := some (s.captureGroup g), dirtyAgain := false
        syncs := s.groups[g].syncs.map fun w => { w with captured := true }, ticks := 0 } := by
  cases h with
  | discarded => exact .inl (.refl s)
  | leaseExpired key p n i => exact .inl (.endHold s i true)
  | waitExpired => exact .inl (.same (by simp [SameStore]))
  | evicted p => exact .inl (.evict s p false)
  | captured g at' state none => exact .inr ⟨g, at', rfl, state, none, rfl⟩
  | committed g noted => exact .inl (.commitGroup s g noted)
  | faulted g => exact .inl ((StoreMove.answerSyncs s g (fun _ => true) .storeFault).congr (by simp [SameStore]))

end Sys2Proof.Machine
end

section
/-! PROOFS. Every step keeps the rewrite queue, the two rewrites, the group records and the banks in agreement (O11). -/

namespace Sys2Proof.Machine

variable {s t u : State} {g : GroupId} {x : Group} {a : ActiveRewrite} {c : Instr}

/-! ### The work of the Store Engine (R120, R137) -/

theorem QueueSound.no_pause (h : QueueSound s) (ha : s.active = none) : s.pauseOrdered = false := by
  cases hp : s.pauseOrdered with
  | false => rfl
  | true =>
    obtain ⟨-, g, act, -⟩ := h.2.2.2.2.1 hp
    exact absurd (ha.symm.trans act) nofun

theorem QueueSound.engaged (h : QueueSound s) : QueueSound s.engaged :=
  h.eqs (by simp) (by simp) (by simp) (by simp) (by simp)

theorem QueueSound.startHead (h : QueueSound s) (ha : s.active = none) : QueueSound s.startHead := by
  unfold State.startHead
  split
  · exact h
  · rename_i g rest hq
    have queued : s.groups[g].state = .queued := (h.2.1 g).1 (by rw [hq]; exact List.mem_cons_self ..)
    have nodup := h.1
    rw [hq, List.nodup_cons] at nodup
    obtain ⟨-, -, -, worn⟩ := h.2.2.2.2.2 g
    rw [queued] at worn
    refine QueueSound.engaged (h.set (g := g) rfl ⟨Nat.zero_le _, by simp [GroupState.phase?], by simp [GroupState.phase?],
      by simpa using worn⟩ nodup.2 (by simpa using nodup.1) (fun g' ne => by simp [hq, ne]) ?_ (fun _ _ => Iff.rfl)
      (by simp [GroupState.phase?]) (fun g' ne => by simp [ha, Ne.symm ne]) fun ordered => ?_)
    · have := (h.2.2.1 g)
      rw [queued] at this
      simpa [GroupState.phase?] using this
    · exact absurd (h.no_pause ha) (by rw [show s.pauseOrdered = true from ordered]; nofun)

theorem State.resume_eq {at' : Attempt} (h : s.groups[g].state = .rewriting .suspended at') :
    s.resume g = { s with
      groups := s.groups.set g { s.groups[g] with state := .rewriting .erasing at' }
      active := some g, suspended := none } := by
  unfold State.resume
  rw [h]
  rfl

theorem phase_some {st : GroupState} {ph : RewritePhase} : st.phase? = some ph ↔ ∃ at', st = .rewriting ph at' := by
  cases st <;> simp [GroupState.phase?]

theorem QueueSound.suspended_state (h : QueueSound s) (hs : s.suspended = some g) :
    ∃ at', s.groups[g].state = .rewriting .suspended at' := phase_some.1 ((h.2.2.1 g).1 hs)

theorem QueueSound.resume (h : QueueSound s) (ha : s.active = none) (hs : s.suspended = some g) :
    QueueSound (s.resume g) := by
  obtain ⟨at', state⟩ := h.suspended_state hs
  obtain ⟨few, capture, again, worn⟩ := h.2.2.2.2.2 g
  have member := h.2.1 g
  rw [state] at capture again worn member
  rw [State.resume_eq state]
  exact h.set (g := g) rfl ⟨few, by simpa [GroupState.phase?] using capture, fun _ => nofun, by simpa using worn⟩ h.1
    (by simpa using member) (fun _ _ => Iff.rfl)
    (by simp [GroupState.phase?]) (fun g' ne => by simp [hs, Ne.symm ne]) (by simp [GroupState.phase?])
    (fun g' ne => by simp [ha, Ne.symm ne]) fun ordered =>
      absurd (h.no_pause ha) (by rw [show s.pauseOrdered = true from ordered]; nofun)

theorem QueueSound.startWork (h : QueueSound s) : QueueSound s.startWork := by
  unfold State.startWork
  split
  · exact h
  · split
    · exact h
    · split
      · exact h.resume ‹_› ‹_›
      · exact h.startHead ‹_›

/-! ### The reports of the array (R122 to R125, R127, R128, R136, R138) -/

theorem QueueSound.not_suspended (h : QueueSound s) (ha : s.active = some g) : s.suspended ≠ some g := fun hs =>
  ((h.2.2.2.1 g).1 ha).2 ((h.2.2.1 g).1 hs)

/-- The active rewrite goes on to a phase after its capture. -/
theorem QueueSound.goOn (h : QueueSound s) {ph ph' : RewritePhase} {at' at'' : Attempt} (ha : s.active = some g)
    (state : s.groups[g].state = .rewriting ph at') (late : ph ≠ .captured)
    (ok : ph' ≠ .captured ∧ ph' ≠ .suspended)
    (hg : t.groups = s.groups.set g { s.groups[g] with state := .rewriting ph' at'', ticks := 0 })
    (hq : t.queue = s.queue) (hta : t.active = s.active) (hs : t.suspended = s.suspended)
    (hp : t.pauseOrdered = false) : QueueSound t := by
  obtain ⟨few, capture, again, worn⟩ := h.2.2.2.2.2 g
  have member := h.2.1 g
  have suspends := h.not_suspended ha
  rw [state] at capture again worn member
  refine h.set hg ⟨few, ?_, fun _ => by simp [GroupState.phase?], by simpa using worn⟩ (by rw [hq]; exact h.1)
    (by rw [hq]; simpa using member) (fun _ _ => by rw [hq]) (by rw [hs]; simp [GroupState.phase?, ok.2, suspends])
    (fun _ _ => by rw [hs]) (by rw [hta, ha]; simp [GroupState.phase?, ok.2]) (fun _ _ => by rw [hta])
    fun ordered => by rw [hp] at ordered; cases ordered
  simpa [GroupState.phase?, late, ok.1] using capture

/-- The active rewrite ends, and its group is no longer REWRITING. -/
theorem QueueSound.endActive (h : QueueSound s) (ha : s.active = some g) (hg : t.groups = s.groups.set g x)
    (sound : GroupSound x) (idle : x.state.phase? = none) (nodup : t.queue.Nodup)
    (queued : g ∈ t.queue ↔ x.state = .queued) (queue : ∀ g', g' ≠ g → (g' ∈ t.queue ↔ g' ∈ s.queue))
    (hta : t.active = none) (hs : t.suspended = s.suspended) (hp : t.pauseOrdered = false) : QueueSound t :=
  h.set hg sound nodup queued queue (by rw [hs, idle]; simp [h.not_suspended ha]) (fun _ _ => by rw [hs])
    (by simp [hta, idle]) (fun g' ne => by simp [hta, ha, Ne.symm ne]) fun ordered => by rw [hp] at ordered; cases ordered

theorem QueueSound.not_queued (h : QueueSound s) {ph : RewritePhase} {at' : Attempt}
    (state : s.groups[g].state = .rewriting ph at') : g ∉ s.queue := not_mem_of_state h (by rw [state]; nofun)

/-- R138: the active rewrite is abandoned. -/
theorem QueueSound.requeueActive (h : QueueSound s) {ph : RewritePhase} {at' : Attempt} (ha : s.active = some g)
    (state : s.groups[g].state = .rewriting ph at') (hg : t.groups = s.groups.set g s.groups[g].abandoned)
    (hq : t.queue = g :: s.queue) (hta : t.active = none) (hs : t.suspended = s.suspended)
    (hp : t.pauseOrdered = false) : QueueSound t := by
  obtain ⟨few, -, -, worn⟩ := h.2.2.2.2.2 g
  rw [state] at worn
  exact h.endActive ha hg ⟨few, by simp [Group.abandoned, GroupState.phase?], by simp [Group.abandoned],
    by simpa [Group.abandoned] using worn⟩ rfl (by rw [hq]; exact List.nodup_cons.2 ⟨h.not_queued state, h.1⟩)
    (by simp [hq, Group.abandoned]) (fun g' ne => by simp [hq, ne]) hta hs hp

/-- R138: the suspended rewrite is abandoned. -/
theorem QueueSound.requeueSuspended (h : QueueSound s) (hsus : s.suspended = some g)
    (hg : t.groups = s.groups.set g s.groups[g].abandoned) (hq : t.queue = g :: s.queue) (hta : t.active = s.active)
    (hs : t.suspended = none) (hp : t.pauseOrdered = s.pauseOrdered) : QueueSound t := by
  obtain ⟨at', state⟩ := h.suspended_state hsus
  obtain ⟨few, -, -, worn⟩ := h.2.2.2.2.2 g
  have acts := h.2.2.2.1 g
  rw [state] at worn acts
  refine h.set hg ⟨few, by simp [Group.abandoned, GroupState.phase?], by simp [Group.abandoned],
    by simpa [Group.abandoned] using worn⟩ (by rw [hq]; exact List.nodup_cons.2 ⟨h.not_queued state, h.1⟩)
    (by simp [hq, Group.abandoned]) (fun g' ne => by simp [hq, ne]) (by simp [hs, Group.abandoned, GroupState.phase?])
    (fun g' ne => by simp [hs, hsus, Ne.symm ne]) (by rw [hta]; simpa [Group.abandoned, GroupState.phase?] using acts)
    (fun _ _ => by rw [hta]) fun ordered => ?_
  rw [hp] at ordered
  exact absurd ((h.2.2.2.2.1 ordered).1.symm.trans hsus) nofun

theorem isWorn_iff {w : Word} : isWorn w = true ↔ 200000 ≤ w.toNat := decide_eq_true_iff

theorem switchedGroup_eq (x : Group) : switchedGroup x = x.switched := by
  unfold switchedGroup Group.switched Group.switchState
  have worn (w : Word) : (isWorn w = true) = (200000 ≤ w.toNat) := propext isWorn_iff
  simp only [worn]
  cases x.dirtyAgain <;> simp [Bool.or_comm]

theorem Group.switchState_cases (x : Group) :
    (x.switchState = .worn ∧ 200000 ≤ (x.wear + 1).toNat)
      ∨ ((x.switchState = .queued ∨ x.switchState = .clean) ∧ (x.wear + 1).toNat < 200000) := by
  unfold Group.switchState
  split
  · exact .inl ⟨rfl, ‹_›⟩
  · refine .inr ⟨?_, by omega⟩
    split
    · exact .inl rfl
    · exact .inr rfl

theorem Group.switchState_ne_faulted (x : Group) : x.switchState ≠ .faulted := by
  obtain ⟨h, -⟩ | ⟨h | h, -⟩ := x.switchState_cases <;> rw [h] <;> nofun

theorem Group.switched_sound (h : GroupSound x) : GroupSound x.switched ∧ x.switched.state.phase? = none := by
  have state : x.switched.state = x.switchState := rfl
  have wear : x.switched.wear = x.wear + 1 := rfl
  obtain ⟨worn, many⟩ | ⟨queued | clean, few⟩ := x.switchState_cases
  · exact ⟨⟨h.1, by simp [Group.switched, worn, GroupState.phase?], by simp [Group.switched],
      by rw [state, wear, worn]; simpa using many⟩, by rw [state, worn]; rfl⟩
  · exact ⟨⟨h.1, by simp [Group.switched, queued, GroupState.phase?], by simp [Group.switched],
      by rw [state, wear, queued]; simpa using few⟩, by rw [state, queued]; rfl⟩
  · exact ⟨⟨h.1, by simp [Group.switched, clean, GroupState.phase?], by simp [Group.switched],
      by rw [state, wear, clean]; simpa using few⟩, by rw [state, clean]; rfl⟩

theorem switchedQueue_sound {q : List GroupId} (hq : q.Nodup) (hm : g ∉ q) (x : Group) :
    (switchedQueue x g q).Nodup ∧ (g ∈ switchedQueue x g q ↔ x.switched.state = .queued)
      ∧ ∀ g', g' ≠ g → (g' ∈ switchedQueue x g q ↔ g' ∈ q) := by
  unfold switchedQueue
  rw [switchedGroup_eq]
  split
  · rename_i queued
    split
    · exact ⟨List.nodup_cons.2 ⟨hm, hq⟩, by simp [queued], fun g' ne => by simp [ne]⟩
    · exact ⟨(List.perm_append_singleton _ _).nodup_iff.2 (List.nodup_cons.2 ⟨hm, hq⟩), by simp [queued],
        fun g' ne => by simp [ne]⟩
  · rename_i queued
    exact ⟨hq, by simp [hm, queued], fun _ _ => Iff.rfl⟩

/-- R125: the switch of the active rewrite of a group, before the next work starts. -/
def State.switchedAt (s : State) (g : GroupId) (cap : Vector CapturedHome 16) : State :=
  State.engaged { s with
    groups := s.groups.set g s.groups[g].switched
    active := none
    queue := switchedQueue s.groups[g] g s.queue
    events := s.events ++ [.committed g (notedVacated cap)] }

theorem State.switch_eq (s : State) (g : GroupId) (cap : Vector CapturedHome 16) :
    s.switch g cap = (s.switchedAt g cap).startWork := by
  unfold State.switch State.switchedAt
  rw [switchedGroup_eq]
  rfl

/-- R128: the second failure of a group's rewrite, before the next work starts. -/
def State.faultedAt (s : State) (g : GroupId) : State :=
  State.engaged { s with
    groups := s.groups.set g { s.groups[g] with
      state := .faulted, capture := none, dirtyAgain := false, unpersisted := true }
    active := none
    events := s.events ++ [.faulted g] }

theorem State.fault_eq (s : State) (g : GroupId) : s.fault g = (s.faultedAt g).startWork := rfl

theorem QueueSound.switchedAt (h : QueueSound s) {ph : RewritePhase} {at' : Attempt} (ha : s.active = some g)
    (state : s.groups[g].state = .rewriting ph at') (late : s.pauseOrdered = false) (cap : Vector CapturedHome 16) :
    QueueSound (s.switchedAt g cap) := by
  obtain ⟨nodup, queued, queue⟩ := switchedQueue_sound h.1 (h.not_queued state) s.groups[g]
  obtain ⟨sound, idle⟩ := Group.switched_sound (h.2.2.2.2.2 g)
  exact QueueSound.engaged (h.endActive (g := g) (x := s.groups[g].switched) ha rfl sound idle nodup queued queue rfl
    rfl late)

theorem QueueSound.faultedAt (h : QueueSound s) {ph : RewritePhase} {at' : Attempt} (ha : s.active = some g)
    (state : s.groups[g].state = .rewriting ph at') (late : s.pauseOrdered = false) : QueueSound (s.faultedAt g) := by
  obtain ⟨few, -, -, worn⟩ := h.2.2.2.2.2 g
  rw [state] at worn
  exact QueueSound.engaged (h.endActive (g := g) ha rfl
    ⟨few, by simp [GroupState.phase?], by simp, by simpa using worn⟩ rfl h.1
    (by simpa using h.not_queued state) (fun _ _ => Iff.rfl) rfl rfl late)

/-- The pause counts for nothing where it is withdrawn. -/
theorem QueueSound.withdrawPause (h : QueueSound s) : QueueSound { s with pauseOrdered := false } := by
  obtain ⟨nodup, queued, suspended, active, -, groups⟩ := h
  exact ⟨nodup, queued, suspended, active, nofun, groups⟩

theorem QueueSound.rewriteFails (h : QueueSound s) {ph : RewritePhase} {at' : Attempt} (ha : s.active = some g)
    (state : s.groups[g].state = .rewriting ph at') (late : ph ≠ .captured) (at'' : Attempt) :
    QueueSound (s.rewriteFails g at'') := by
  cases at'' with
  | first =>
    unfold State.rewriteFails
    dsimp only
    split
    · exact h.requeueActive ha state rfl rfl rfl rfl rfl
    · exact h.goOn (ph' := .erasing) ha state late ⟨nofun, nofun⟩ rfl rfl rfl rfl rfl
  | retry => exact (h.withdrawPause.faultedAt (g := g) ha state rfl).startWork

theorem QueueSound.suspendActive (h : QueueSound s) {at' : Attempt} (ha : s.active = some a.group)
    (state : s.groups[a.group].state = .rewriting .erasing at') (ordered : s.pauseOrdered = true) :
    QueueSound (s.suspendActive a) := by
  obtain ⟨none, g, act, -, few⟩ := h.2.2.2.2.1 ordered
  obtain rfl : a.group = g := Option.some.inj (ha.symm.trans act)
  obtain ⟨-, capture, again, worn⟩ := h.2.2.2.2.2 a.group
  have member := h.2.1 a.group
  rw [state] at capture again worn member
  exact h.set (g := a.group) rfl ⟨by dsimp only; omega, by simpa [GroupState.phase?] using capture,
    by simp [GroupState.phase?], by simpa using worn⟩ h.1 (by simpa using member) (fun _ _ => Iff.rfl)
    (by simp [State.suspendActive, GroupState.phase?]) (fun g' ne => by simp [State.suspendActive, none, Ne.symm ne])
    (by simp [State.suspendActive, GroupState.phase?]) (fun g' ne => by simp [State.suspendActive, ha, Ne.symm ne]) nofun

/-- A pause is ordered of an erase alone. -/
theorem QueueSound.no_pause_of_phase (h : QueueSound s) {ph : RewritePhase} {at' : Attempt} (ha : s.active = some g)
    (state : s.groups[g].state = .rewriting ph at') (other : ph ≠ .erasing) : s.pauseOrdered = false := by
  cases hp : s.pauseOrdered with
  | false => rfl
  | true =>
    obtain ⟨-, g', act, erasing, -⟩ := h.2.2.2.2.1 hp
    obtain rfl : g = g' := Option.some.inj (ha.symm.trans act)
    rw [state] at erasing
    exact absurd (Option.some.inj erasing) other

theorem QueueSound.setSpare (h : QueueSound s) (m : Memory) : QueueSound (s.setSpare g m) := h

theorem Reported.queueSound (hr : Reported s a u) (h : QueueSound s) : QueueSound u := by
  have act := hr.active
  cases hr with
  | erased phase =>
    obtain ⟨-, state, -⟩ := State.activeIn_some phase
    exact h.goOn (ph' := .programming) act state nofun ⟨nofun, nofun⟩ rfl rfl rfl rfl rfl
  | suspended phase ordered =>
    obtain ⟨-, state, -⟩ := State.activeIn_some phase
    exact h.suspendActive act state ordered
  | paused phase ordered =>
    obtain ⟨-, state, -⟩ := State.activeIn_some phase
    exact (h.suspendActive act state ordered).startHead rfl
  | programmed phase =>
    obtain ⟨-, state, -⟩ := State.activeIn_some phase
    exact h.goOn (ph' := .committing) act state nofun ⟨nofun, nofun⟩ rfl rfl rfl rfl (h.no_pause_of_phase act state nofun)
  | switched phase =>
    obtain ⟨-, state, -⟩ := State.activeIn_some phase
    rw [State.switch_eq]
    exact (QueueSound.switchedAt (h.setSpare _) act state (h.no_pause_of_phase act state nofun) _).startWork
  | failed ph m phase =>
    obtain ⟨-, state, capture⟩ := State.activeIn_some phase
    have late : ph ≠ .captured := by
      have := ((h.2.2.2.2.2 a.group).2.1.1 (by rw [capture]; rfl)).2
      rw [state] at this
      exact fun e => this (by rw [e]; rfl)
    exact QueueSound.rewriteFails (s := { s.setSpare a.group (failedBank a.attempt m) with fresh := s.fresh + 1 })
      h act state late _

end Sys2Proof.Machine
end

section
/-! PROOFS. Every step keeps the rewrite queue, the two rewrites, the group records and the banks in agreement (O11). -/

namespace Sys2Proof.Machine

variable {s t u : State} {g : GroupId} {x : Group} {a : ActiveRewrite} {c : Instr}

/-! ### The events whose items have not ended (R141) -/

/-- R141: taking a client leaves the events whose items have not ended as they were. -/
theorem State.engaged_waiting (s : State) : s.engaged.waiting = s.waiting := by
  cases hi : s.item with
  | some x => rw [State.engaged_busy (by rw [hi]; nofun)]
  | none =>
    have event : s.event = none := by rw [State.event, hi]
    cases hc : s.client with
    | none => rw [State.engaged_idle hc]
    | some c =>
      cases c with
      | event e =>
        have head : ∃ rest, s.events = e :: rest := by
          unfold State.client at hc
          split at hc
          · split at hc
            · cases hc; exact ⟨_, ‹_›⟩
            · obtain ⟨p, -, h⟩ := List.exists_of_findSome?_eq_some hc
              cases s.ports[p].eligible <;> simp at h
          · cases hc
        obtain ⟨rest, he⟩ := head
        rw [State.engaged_event hi hc, State.waiting, State.waiting, event, he]
        simp [State.event, he]
      | request p f =>
        rw [State.engaged_request hi hc, State.waiting, State.waiting, event]
        simp [State.event]

/-- R143: a request is taken only while no event waits. -/
theorem State.engaged_serves (h : s.engaged.servesRequest) : s.servesRequest ∨ s.engaged.waiting = [] := by
  cases hi : s.item with
  | some x =>
    rw [State.engaged_busy (by rw [hi]; nofun)] at h
    exact .inl h
  | none =>
    right
    rw [State.engaged_waiting, State.waiting, State.event, hi]
    by_contra waits
    obtain ⟨x, item, p, f, request⟩ := h
    by_cases hp : s.phase = .running
    · cases he : s.events with
      | nil => simp [he] at waits
      | cons e rest =>
        rw [State.engaged_event hi (State.client_event hp he)] at item
        obtain rfl : ⟨.event e, s.time⟩ = x := Option.some.inj item
        cases request
    · rw [State.engaged_idle (State.client_none_of_phase hp), hi] at item
      cases item

/-- R141: the item that ends was not of a later event. -/
theorem State.finish_waiting (s : State) : s.finish.waiting = s.events := by
  rw [State.finish, State.engaged_waiting]
  rfl

theorem State.finish_serves (h : s.finish.servesRequest) : s.finish.waiting = [] := by
  obtain ⟨x, item, -⟩ | none := State.engaged_serves h
  · cases item
  · exact none

/-! ### What the work of the Store Engine leaves as it was -/

/-- What starting or resuming a rewrite makes of the state: the homes, the records and the banks stand, and so do every
group's current bank and wear count. -/
structure Worked (s t : State) : Prop where
  table : t.phase = s.phase ∧ t.slots = s.slots ∧ t.index = s.index ∧ t.homeMap = s.homeMap
  banks : t.banks = s.banks
  groups : ∀ g : GroupId, t.groups[g] = s.groups[g]
    ∨ (∃ at', s.groups[g].state = .rewriting .suspended at'
        ∧ t.groups[g] = { s.groups[g] with state := .rewriting .erasing at' })
    ∨ (g ∈ s.queue ∧ t.groups[g] = { s.groups[g] with
        state := .rewriting .captured .first, capture := none, suspendCount := 0, ticks := 0 })
  waiting : t.waiting = s.waiting
    ∨ ∃ g : GroupId, t.waiting = s.waiting ++ [.capture g] ∧ t.groups[g].capture = none
  serves : t.servesRequest → s.servesRequest ∨ t.waiting = []

theorem Worked.refl (s : State) : Worked s s := ⟨⟨rfl, rfl, rfl, rfl⟩, rfl, fun _ => .inl rfl, .inl rfl, .inl⟩

/-- R120: a rewrite of the head group is started. -/
theorem State.startHead_eq {rest : List GroupId} (hq : s.queue = g :: rest) :
    s.startHead = State.engaged { s with
      groups := s.groups.set g { s.groups[g] with
        state := .rewriting .captured .first, capture := none, suspendCount := 0, ticks := 0 }
      queue := rest, active := some g, events := s.events ++ [.capture g] } := by
  unfold State.startHead
  rw [hq]
  rfl

theorem State.startHead_nil (hq : s.queue = []) : s.startHead = s := by
  unfold State.startHead
  rw [hq]

theorem Worked.startHead (s : State) : Worked s s.startHead := by
  cases hq : s.queue with
  | nil =>
    rw [State.startHead_nil hq]
    exact .refl s
  | cons g rest =>
    rw [State.startHead_eq hq]
    refine ⟨by simp, by simp, fun g' => ?_, .inr ⟨g, ?_, ?_⟩, fun h => ?_⟩
    · rw [(State.engaged_frame _).2.2.2.2.2.2.2.2.1, vector_set_at]
      split
      · subst g'; exact .inr (.inr ⟨by rw [hq]; exact List.mem_cons_self .., rfl⟩)
      · exact .inl rfl
    · rw [State.engaged_waiting]
      exact (List.append_assoc _ _ _).symm
    · rw [(State.engaged_frame _).2.2.2.2.2.2.2.2.1, vector_set_at, if_pos rfl]
    · exact State.engaged_serves h

theorem Worked.resume {at' : Attempt} (h : s.groups[g].state = .rewriting .suspended at') : Worked s (s.resume g) := by
  rw [State.resume_eq h]
  refine ⟨⟨rfl, rfl, rfl, rfl⟩, rfl, fun g' => ?_, .inl rfl, .inl⟩
  dsimp only
  rw [vector_set_at]
  split
  · subst g'; exact .inr (.inl ⟨at', h, rfl⟩)
  · exact .inl rfl

theorem Worked.startWork (h : QueueSound s) : Worked s s.startWork := by
  unfold State.startWork
  split
  · exact .refl s
  · split
    · exact .refl s
    · split
      · obtain ⟨at', state⟩ := h.suspended_state ‹_›
        exact .resume state
      · exact .startHead s

theorem Worked.current (h : Worked s t) (g : GroupId) :
    t.groups[g].current = s.groups[g].current ∧ t.groups[g].wear = s.groups[g].wear := by
  obtain e | ⟨at', -, e⟩ | ⟨-, e⟩ := h.groups g <;> rw [e] <;> exact ⟨rfl, rfl⟩

theorem Worked.faulted (h : Worked s t) (hf : t.groups[g].state = .faulted) : s.groups[g].state = .faulted := by
  obtain e | ⟨at', -, e⟩ | ⟨-, e⟩ := h.groups g <;> rw [e] at hf
  · exact hf
  · cases hf
  · cases hf

/-! ### The banks -/

theorem Worked.banksSound (h : Worked s t) (hs : BanksSound s) : BanksSound t :=
  hs.congr h.banks fun g hf => ⟨h.faulted hf, (h.current g).1⟩

theorem BanksSound.eqs (h : BanksSound s) (hb : t.banks = s.banks) (hg : t.groups = s.groups) : BanksSound t :=
  h.congr hb fun g hf => by rw [hg] at hf ⊢; exact ⟨hf, rfl⟩

theorem BanksSound.engaged (h : BanksSound s) : BanksSound s.engaged := h.eqs (by simp) (by simp)

theorem StoreMove.banksSound (h : StoreMove s t) (hb : t.banks = s.banks) (hs : BanksSound s) : BanksSound t :=
  hs.congr hb fun g hf => by
    obtain ⟨current, -, -, -, faulted⟩ := h.groups g
    exact ⟨faulted hf, current⟩

/-- One group record changed, which is not FAULTED after. -/
theorem BanksSound.setGroup (h : BanksSound s) (hb : t.banks = s.banks) (hg : t.groups = s.groups.set g x)
    (hx : x.state ≠ .faulted) : BanksSound t :=
  h.congr hb fun g' hf => by
    rw [hg, vector_set_at] at hf ⊢
    split at hf
    · exact absurd hf hx
    · rw [if_neg ‹_›]; exact ⟨hf, rfl⟩

/-- The spare bank of a group holds `m`, and its record has changed to one that is not FAULTED unless `m` is INVALID. -/
theorem BanksSound.setSpareGroup {m : Memory} (h : BanksSound s) (hm : m.wf = true)
    (hb : t.banks = (s.setSpare g m).banks) (hg : t.groups = s.groups.set g x)
    (hx : x.state = .faulted → judgeBank g m = .invalid ∧ x.current = s.groups[g].current) : BanksSound t :=
  h.setSpare hm hb (by rw [hg, vector_set_at, if_pos rfl]; exact hx)
    fun g' ne => by rw [hg, vector_set_at, if_neg (Ne.symm ne)]

theorem setSpare_wear (s : State) (g g' : GroupId) (m : Memory) : (s.setSpare g m).groups[g'] = s.groups[g'] := rfl

theorem Reported.banksSound (hr : Reported s a u) (hq : QueueSound s) (h : BanksSound s) : BanksSound u := by
  have act := hr.active
  cases hr with
  | erased phase => exact h.setSpareGroup Memory.wf_erased rfl rfl nofun
  | suspended phase ordered => exact h.setGroup rfl rfl nofun
  | paused phase ordered =>
    refine (Worked.startHead (s.suspendActive a)).banksSound ?_
    exact h.setGroup rfl rfl nofun
  | programmed phase => exact h.setSpareGroup (Memory.wf_writeBytes Memory.wf_erased _ _) rfl rfl nofun
  | switched phase =>
    obtain ⟨-, state, -⟩ := State.activeIn_some phase
    have late := hq.no_pause_of_phase act state nofun
    rw [State.switch_eq]
    refine (Worked.startWork (QueueSound.switchedAt (hq.setSpare _) act state late _)).banksSound (BanksSound.engaged ?_)
    exact h.setSpareGroup (Memory.wf_writeBytes (h.bank _ _) _ _) rfl rfl fun hf =>
      absurd hf (Group.switchState_ne_faulted _)
  | failed ph m phase left =>
    obtain ⟨-, state, -⟩ := State.activeIn_some phase
    obtain ⟨wf, invalid⟩ := FailureLeaves.not_valid left (h.bank _ _)
    have spare := failedBank_wf wf a.attempt
    unfold State.failsLeaving State.rewriteFails
    split
    · split
      · exact h.setSpareGroup spare rfl rfl nofun
      · exact h.setSpareGroup spare rfl rfl nofun
    · rename_i retry
      rw [State.fault_eq]
      refine (Worked.startWork (QueueSound.faultedAt (s := { s.setSpare a.group (failedBank a.attempt m) with
        fresh := s.fresh + 1, pauseOrdered := false }) ?_ act state rfl)).banksSound (BanksSound.engaged ?_)
      · exact hq.withdrawPause
      · exact h.setSpareGroup spare rfl rfl fun _ => ⟨by rw [retry]; exact failedBank_invalid wf invalid, rfl⟩

end Sys2Proof.Machine
end

section
/-! PROOFS. Every step keeps the rewrite queue, the two rewrites, the group records and the banks in agreement (O11). -/

namespace Sys2Proof.Machine

variable {s t u : State} {g : GroupId} {x : Group} {a : ActiveRewrite} {c : Instr}

/-! ### PFW# (R138) -/

theorem State.cutOff_eqs (s : State) (g : GroupId) :
    (s.cutOff g).groups = s.groups ∧ (s.cutOff g).queue = s.queue ∧ (s.cutOff g).active = s.active
      ∧ (s.cutOff g).suspended = s.suspended ∧ (s.cutOff g).pauseOrdered = s.pauseOrdered := by simp

theorem QueueSound.cutOff (h : QueueSound s) (g : GroupId) : QueueSound (s.cutOff g) := by
  obtain ⟨groups, queue, active, suspended, pause⟩ := s.cutOff_eqs g
  exact h.eqs groups queue active suspended pause

/-- The store is sound: the queue, the rewrites and the banks. -/
abbrev StoreSound (s : State) : Prop := QueueSound s ∧ BanksSound s

theorem StoreSound.eqs (h : StoreSound s) (hg : t.groups = s.groups) (hq : t.queue = s.queue)
    (ha : t.active = s.active) (hs : t.suspended = s.suspended) (hp : t.pauseOrdered = s.pauseOrdered)
    (hb : t.banks = s.banks) : StoreSound t := ⟨h.1.eqs hg hq ha hs hp, h.2.eqs hb hg⟩

theorem StoreSound.abandonSuspended (h : StoreSound s) : StoreSound s.abandonSuspended := by
  unfold State.abandonSuspended
  split
  · exact h
  · rename_i g suspended
    obtain ⟨groups, -, -, sus, -⟩ := s.cutOff_eqs g
    exact ⟨(h.1.cutOff g).requeueSuspended (by rw [sus, suspended]) rfl rfl rfl rfl rfl,
      (h.2.cutOff g).setGroup rfl rfl nofun⟩

theorem StoreSound.abandonActive (h : StoreSound s) : StoreSound s.abandonActive := by
  unfold State.abandonActive
  split
  · exact h
  · rename_i g active
    split
    · rename_i state
      exact ⟨h.1.requeueActive active state rfl rfl rfl rfl (h.1.no_pause_of_phase active state nofun),
        h.2.setGroup rfl rfl nofun⟩
    · rename_i state
      obtain ⟨groups, -, act, -, -⟩ := s.cutOff_eqs g
      exact ⟨(h.1.cutOff g).requeueActive (by rw [act, active]) (by rw [groups]; exact state) rfl rfl rfl rfl rfl,
        (h.2.cutOff g).setGroup rfl rfl nofun⟩
    all_goals exact h

/-! ### Time, captures, reset and restore -/

theorem Group.tick_eq (x : Group) : ∃ n, x.tick = { x with ticks := n } := by
  unfold Group.tick
  split <;> exact ⟨_, rfl⟩

theorem StoreMove.tickActive (s : State) : StoreMove s s.tickActive := by
  unfold State.tickActive
  split
  · exact .refl s
  · rename_i g _
    obtain ⟨n, e⟩ := s.groups[g].tick_eq
    rw [e]
    refine ⟨fun h => ?_, Group.Stays.set (g := g) (x := { s.groups[g] with ticks := n })
      ⟨rfl, rfl, rfl, fun _ _ => Iff.rfl, id⟩ rfl⟩
    exact h.setIdle (g := g) rfl (h.2.2.2.2.2 g) rfl rfl h.1 (h.2.1 g) (fun _ _ => Iff.rfl) rfl rfl rfl

theorem QueueSound.captured (h : QueueSound s) {at' : Attempt} {cap : Vector CapturedHome 16} {ws : List ParkedSync}
    (state : s.groups[g].state = .rewriting .captured at')
    (hg : t.groups = s.groups.set g { s.groups[g] with
      state := .rewriting .erasing at', capture := some cap, dirtyAgain := false, syncs := ws, ticks := 0 })
    (hq : t.queue = s.queue) (ha : t.active = s.active) (hs : t.suspended = s.suspended)
    (hp : t.pauseOrdered = s.pauseOrdered) : QueueSound t := by
  have acts := h.2.2.2.1 g
  have suspends := h.2.2.1 g
  have member := h.2.1 g
  obtain ⟨few, -, -, worn⟩ := h.2.2.2.2.2 g
  rw [state] at acts suspends member worn
  refine h.set hg ⟨few, by simp [GroupState.phase?], by simp, by simpa using worn⟩ (by rw [hq]; exact h.1)
    (by rw [hq]; simpa using member) (fun _ _ => by rw [hq]) (by rw [hs]; simpa [GroupState.phase?] using suspends)
    (fun _ _ => by rw [hs]) (by rw [ha]; simpa [GroupState.phase?] using acts) (fun _ _ => by rw [ha])
    fun ordered => ?_
  rw [hp, h.no_pause_of_phase (acts.2 (by simp [GroupState.phase?])) state nofun] at ordered
  cases ordered

theorem blankGroup_sound : GroupSound blankGroup := by
  refine ⟨?_, ?_, ?_, ?_⟩ <;> simp [blankGroup, GroupState.phase?]

/-- No rewrite is under way and no group is QUEUED. -/
theorem QueueSound.idle (hg : ∀ g : GroupId, GroupSound s.groups[g] ∧ s.groups[g].state.phase? = none
      ∧ s.groups[g].state ≠ .queued) (hq : s.queue = []) (ha : s.active = none) (hs : s.suspended = none)
    (hp : s.pauseOrdered = false) : QueueSound s := by
  refine ⟨by rw [hq]; exact .nil, fun g => ?_, fun g => ?_, fun g => ?_, fun h => ?_, fun g => (hg g).1⟩
  · simpa [hq] using (hg g).2.2
  · rw [hs, (hg g).2.1]; exact ⟨nofun, nofun⟩
  · rw [ha, (hg g).2.1]; exact ⟨nofun, fun h => absurd rfl h.1⟩
  · rw [hp] at h; cases h

theorem cleared_groups (s : State) (ph : RunState) (g : GroupId) : (s.cleared ph).groups[g] = blankGroup := by
  show (Vector.replicate 16 blankGroup)[g] = blankGroup
  simp

theorem StoreSound.cleared (h : BanksSound s) (ph : RunState) : StoreSound (s.cleared ph) := by
  refine ⟨.idle (fun g => ?_) rfl rfl rfl rfl, h.congr rfl fun g hf => ?_⟩
  · rw [cleared_groups]
    exact ⟨blankGroup_sound, rfl, nofun⟩
  · rw [cleared_groups] at hf
    cases hf

theorem BanksSound.cutOffRewrites (h : BanksSound s) : BanksSound s.cutOffRewrites := by
  have one {s : State} (h : BanksSound s) (g : Option GroupId) : BanksSound (s.cutOffRewrite g) := by
    unfold State.cutOffRewrite
    split
    · exact h
    · exact h.cutOff _
  exact one (one h _) _

/-- R110: restore sets each group record that it goes through, and no other. -/
theorem State.restoreGroups_at (s : State) (gs : List GroupId) (g : GroupId) :
    (s.restoreGroups gs).groups[g] = if g ∈ gs then restoredGroup g s.banks[g] else s.groups[g] := by
  have one (s : State) (g' : GroupId) : (s.restoreGroup g').groups[g] =
      if g = g' then restoredGroup g s.banks[g] else s.groups[g] := by
    have set : (s.restoreGroup g').groups = s.groups.set g' (restoredGroup g' s.banks[g']) := by
      unfold State.restoreGroup
      dsimp only
      split <;> simp
    rw [set, vector_set_at]
    by_cases e : g' = g
    · subst e; simp
    · rw [if_neg e, if_neg (Ne.symm e)]
  induction gs generalizing s with
  | nil => rfl
  | cons g' gs ih =>
    have banks : (s.restoreGroup g').banks = s.banks := by simp
    rw [State.restoreGroups, ih, one, banks]
    by_cases e : g = g' <;> simp [e]

theorem restoredGroup_state (g : GroupId) (b : Banks) :
    (restoredGroup g b).state = if 200000 ≤ (restoredGroup g b).wear.toNat then .worn else .clean := by
  unfold restoredGroup
  dsimp only
  exact if_congr isWorn_iff rfl rfl

theorem restoredGroup_sound (g : GroupId) (b : Banks) : GroupSound (restoredGroup g b)
    ∧ (restoredGroup g b).state.phase? = none ∧ (restoredGroup g b).state ≠ .queued
    ∧ (restoredGroup g b).state ≠ .faulted := by
  have state := restoredGroup_state g b
  have rest : (restoredGroup g b).suspendCount = 0 ∧ (restoredGroup g b).capture = none
    ∧ (restoredGroup g b).dirtyAgain = false := ⟨rfl, rfl, rfl⟩
  generalize restoredGroup g b = x at *
  obtain ⟨count, capture, again⟩ := rest
  unfold GroupSound
  rw [count, capture, again, state]
  split <;> rename_i h <;> simp [h, GroupState.phase?]

theorem StoreSound.restored (h : BanksSound s) (held : HeldSound s) (hp : s.phase = .reset)
    (v0 v1 v2 v3 : Privilege) :
    StoreSound ((s.beginRestore.sampleStraps v0 v1 v2 v3).restoreGroups (List.finRange 16)) := by
  obtain ⟨-, -, -, -, -, -, queue, active, suspended, pause⟩ := held (.inr hp)
  have sound (g : GroupId) := restoredGroup_sound g s.banks[g]
  refine ⟨.idle (fun g => ?_) (by simpa using queue) (by simpa using active) (by simpa using suspended)
    (by simpa using pause), h.congr (by simp) fun g hf => ?_⟩
  · rw [State.restoreGroups_at, if_pos (List.mem_finRange g)]
    exact ⟨(sound g).1, (sound g).2.1, (sound g).2.2.1⟩
  · rw [State.restoreGroups_at, if_pos (List.mem_finRange g)] at hf
    exact absurd hf (sound g).2.2.2

/-! ### Every command -/

theorem StoreMove.storeSound (h : StoreMove s t) (hb : t.banks = s.banks) (hs : StoreSound s) : StoreSound t :=
  ⟨h.queue hs.1, h.banksSound hb hs.2⟩

theorem StoreSound.finish (h : StoreSound s) : StoreSound s.finish :=
  h.eqs (by simp) (by simp) (by simp) (by simp) (by simp) (by simp)

theorem Handled.storeSound {e : Event} (h : Handled s e u) (hs : StoreSound s) : StoreSound u := by
  have banks : u.banks = s.banks := h.frame.2.2.2.2.2.2.2.1
  obtain move | ⟨g, at', -, state, -, rfl⟩ := h.storeMove
  · exact move.storeSound banks hs
  · exact ⟨hs.1.captured state rfl rfl rfl rfl rfl, hs.2.setGroup rfl rfl nofun⟩

theorem Ran.storeSound (h : Ran s c t) (held : HeldSound s) (hs : StoreSound s) : StoreSound t := by
  cases h with
  | request c p f u row item served =>
    exact (served.storeMove.storeSound served.frame.2.2.2.2.2.2.2.1 hs).finish
  | event c e u row item handled => exact (handled.storeSound hs).finish
  | reset => exact .cleared hs.2.cutOffRewrites _
  | powerLost => exact .cleared hs.2.cutOffRewrites _
  | restored v0 v1 v2 v3 hp => exact .restored hs.2 held hp v0 v1 v2 v3
  | pfwServing =>
    have pfw : StoreSound { s with pfw := true } := hs
    exact pfw.abandonSuspended.abandonActive.eqs (by simp) (by simp) (by simp) (by simp) (by simp) (by simp)
  | ticked =>
    have fell : StoreSound s.fallAllDue := hs.eqs (by simp) (by simp) (by simp) (by simp) (by simp) (by simp)
    exact (StoreMove.tickActive s.fallAllDue).storeSound (by simp) fell
  | started => exact ⟨hs.1.startWork, (Worked.startWork hs.1).banksSound hs.2⟩
  | report c a u row reported => exact ⟨reported.queueSound hs.1, reported.banksSound hs.1 hs.2⟩
  | idle => exact hs
  | _ => exact hs.eqs (by simp) (by simp) (by simp) (by simp) (by simp) (by simp)

/-- Settles O11: one lemma for each kind of command says what it makes of the group records, the queue and the banks. -/
theorem stepKeepsTheStoreSound : Obligations.StepKeepsTheStoreSound := fun _ _ hs h =>
  step_keeps (P := fun s => HeldSound s ∧ StoreSound s) (fun _ _ hs => hs)
    (fun _ _ _ ran ⟨held, store⟩ => ⟨ran.heldSound held, ran.storeSound held store⟩) hs h

end Sys2Proof.Machine
end

section
/-! PROOFS. The bytes of a bank image (R102 to R105, R193): what a bank that holds the image of a capture gives back
(O60). -/

namespace Sys2Proof.Machine

variable {m : Memory} {g : GroupId} {wear : Word} {cap : Vector CapturedHome 16}

/-! ### Fields of a bank -/

theorem Memory.readBytes_append {o n k : Nat} {xs ys : List Byte} (h : m.readBytes o (n + k) = xs ++ ys)
    (hx : xs.length = n) : m.readBytes o n = xs ∧ m.readBytes (o + n) k = ys := by
  rw [← Memory.take_readBytes m o (Nat.le_add_right n k), ← Memory.drop_readBytes m o n k, h, ← hx]
  exact ⟨List.take_left, List.drop_left⟩

theorem Memory.read_of_readBytes {o : Nat} {x : Byte} (h : m.readBytes o 1 = [x]) : m.read o = x := by
  simpa [Memory.readBytes] using h

theorem half_bytes16 (x : BitVec 16) : (x >>> 8).setWidth 8 ++ x.setWidth 8 = x := by
  apply BitVec.eq_of_getLsbD_eq
  intro i hi
  rw [BitVec.getLsbD_append]
  split
  · simp [*]
  · have : 8 + (i - 8) = i := by omega
    simp [this]
    omega

theorem word_bytes32 (x : BitVec 32) :
    ((x >>> 24).setWidth 8 ++ (x >>> 16).setWidth 8) ++ ((x >>> 8).setWidth 8 ++ x.setWidth 8) = x := by
  apply BitVec.eq_of_getLsbD_eq
  intro i hi
  simp only [BitVec.getLsbD_append, BitVec.getLsbD_setWidth, BitVec.getLsbD_ushiftRight]
  by_cases h8 : i < 8
  · simp [h8, show i < 16 by omega]
  · by_cases h16 : i < 16
    · simp [h8, h16, show i - 8 < 8 by omega, show 8 + (i - 8) = i by omega]
    · by_cases h24 : i < 24
      · simp [h16, show i - 16 < 8 by omega, show 16 + (i - 16) = i by omega]
      · simp [h16, show ¬ i - 16 < 8 by omega, show i - 16 - 8 < 8 by omega, show 24 + (i - 16 - 8) = i by omega]

theorem Memory.half_of_readBytes {o : Nat} {x : BitVec 16} (h : m.readBytes o 2 = bytes16 x) : m.half o = x := by
  have e : [m.read o, m.read (o + 1)] = [(x >>> 8).setWidth 8, x.setWidth 8] := h
  injection e with e0 e
  injection e with e1
  rw [Memory.half, e0, e1, half_bytes16]

theorem Memory.word_of_readBytes {o : Nat} {x : BitVec 32} (h : m.readBytes o 4 = bytes32 x) : m.word o = x := by
  have e : [m.read o, m.read (o + 1), m.read (o + 2), m.read (o + 3)] =
    [(x >>> 24).setWidth 8, (x >>> 16).setWidth 8, (x >>> 8).setWidth 8, x.setWidth 8] := h
  injection e with e0 e
  injection e with e1 e
  injection e with e2 e
  injection e with e3
  rw [Memory.word, e0, e1, e2, e3, word_bytes32]

/-! ### The image of a capture (R103, R193) -/

theorem CapturedHome.length_bytes (x : CapturedHome) : x.bytes.length = 18 := by cases x <;> rfl

theorem flatten_slice {α : Type} {n : Nat} {L : List (List α)} (hl : ∀ l ∈ L, l.length = n) (k : Nat)
    (hk : k < L.length) : (L.flatten.drop (n * k)).take n = L[k] := by
  induction L generalizing k with
  | nil => cases hk
  | cons l L ih =>
    have len : l.length = n := hl l (List.mem_cons_self ..)
    cases k with
    | zero => simp [← len]
    | succ k =>
      rw [List.flatten_cons, Nat.mul_succ, Nat.add_comm, ← List.drop_drop, ← len, List.drop_left, len]
      exact ih (fun x hx => hl x (List.mem_cons_of_mem _ hx)) k (Nat.lt_of_succ_lt_succ hk)

theorem length_images (cap : Vector CapturedHome 16) : (cap.toList.map CapturedHome.bytes).flatten.length = 288 := by
  have each : List.length ∘ CapturedHome.bytes = fun _ => 18 := funext CapturedHome.length_bytes
  rw [List.length_flatten, List.map_map, each]
  simp

theorem length_imageBody : (imageBody g wear cap).length = 293 := by
  rw [imageBody, List.length_append, length_images]
  rfl

theorem length_imageBytes : (imageBytes g wear cap).length = 297 := by
  rw [imageBytes, List.length_append, length_imageBody]
  rfl

/-- A bank whose first 297 bytes are the image of a capture holds its header, its home images and its check word. -/
theorem image_fields (h : m.readBytes 0 297 = imageBytes g wear cap) :
    m.read 0 = byteOf g.val ∧ m.word 1 = wear ∧ (∀ k : Fin 16, m.readBytes (imageOffset k) 18 = cap[k].bytes)
      ∧ m.readBytes 293 4 = bytes32 (crc32 (m.readBytes 0 293)) := by
  obtain ⟨body, check⟩ := Memory.readBytes_append (n := 293) (k := 4) h length_imageBody
  have header := body
  rw [imageBody, List.append_assoc] at header
  obtain ⟨group, rest⟩ := Memory.readBytes_append (n := 1) (k := 292) header rfl
  obtain ⟨count, images⟩ := Memory.readBytes_append (n := 4) (k := 288) rest rfl
  refine ⟨Memory.read_of_readBytes group, Memory.word_of_readBytes count, fun k => ?_, by rw [body, check]⟩
  have split : 288 = 18 * k.val + (288 - 18 * k.val) := by omega
  have slice := flatten_slice (L := cap.toList.map CapturedHome.bytes) (n := 18)
    (by simp [CapturedHome.length_bytes]) k.val (by simp)
  rw [← images, split, Memory.drop_readBytes, Memory.take_readBytes _ _ (by omega)] at slice
  rw [imageOffset]
  exact slice.trans (by simp)

theorem image_valid (h : m.readBytes 0 297 = imageBytes g wear cap) (mark : m.readBytes 297 4 = commitMark) :
    judgeBank g m = .valid := by
  obtain ⟨group, -, -, check⟩ := image_fields h
  rw [judgeBank_valid_iff]
  simp [bankValid, mark, check, group]

/-- The home image of a home captured occupied. -/
theorem image_occupied (h : m.readBytes 0 297 = imageBytes g wear cap) {k : Fin 16} {x : HomeImage}
    (hx : cap[k] = .occupied x) :
    m.read (imageOffset k) = 1 ∧ m.half (imageOffset k + 1) = x.key ∧ m.word (imageOffset k + 3) = x.value
      ∧ m.word (imageOffset k + 7) = x.floor ∧ m.word (imageOffset k + 11) = x.ceiling
      ∧ m.read (imageOffset k + 15) = x.guard.byte ∧ m.half (imageOffset k + 16) = x.generation := by
  have bytes := (image_fields h).2.2.1 k
  rw [hx] at bytes
  have b : m.readBytes (imageOffset k) (1 + (2 + (4 + (4 + (4 + (1 + 2)))))) = [1] ++ (bytes16 x.key
    ++ (bytes32 x.value ++ (bytes32 x.floor ++ (bytes32 x.ceiling ++ ([x.guard.byte] ++ bytes16 x.generation))))) := bytes
  obtain ⟨flag, b⟩ := Memory.readBytes_append b rfl
  obtain ⟨key, b⟩ := Memory.readBytes_append b rfl
  obtain ⟨value, b⟩ := Memory.readBytes_append b rfl
  obtain ⟨floor, b⟩ := Memory.readBytes_append b rfl
  obtain ⟨ceiling, b⟩ := Memory.readBytes_append b rfl
  obtain ⟨guard, generation⟩ := Memory.readBytes_append b rfl
  exact ⟨Memory.read_of_readBytes flag, Memory.half_of_readBytes key, Memory.word_of_readBytes value,
    Memory.word_of_readBytes floor, Memory.word_of_readBytes ceiling, Memory.read_of_readBytes guard,
    Memory.half_of_readBytes generation⟩

theorem image_empty (h : m.readBytes 0 297 = imageBytes g wear cap) {k : Fin 16}
    (hx : cap[k] = .free ∨ cap[k] = .vacated) : m.read (imageOffset k) = 0 := by
  have bytes := (image_fields h).2.2.1 k
  have zeros : cap[k].bytes = [0] ++ List.replicate 17 0 := by obtain hx | hx := hx <;> rw [hx] <;> rfl
  rw [zeros] at bytes
  exact Memory.read_of_readBytes (Memory.readBytes_append (n := 1) (k := 17) bytes rfl).1

/-- Settles O60: the fields of the image are read back one by one. -/
theorem committedImageComesBack : Obligations.CommittedImageComesBack := by
  intro g wear cap m image mark
  obtain ⟨-, count, -, -⟩ := image_fields image
  refine ⟨image_valid image mark, count, fun k => ⟨fun x hx => ?_, fun hx => ?_⟩⟩
  · obtain ⟨flag, key, value, floor, ceiling, guard, generation⟩ := image_occupied image hx
    refine ⟨by rw [imageOccupied, flag]; rfl, key, fun low high bottom top => ?_⟩
    have record : isRecordKey x.key = true := isRecordKey_iff.2 ⟨low, high⟩
    unfold imageRecord
    rw [guard, Guard.ofByte_byte]
    simp only [imageKey, key, value, floor, ceiling, generation, record, inBounds]
    rw [if_pos ⟨trivial, le_trans bottom top, by simp [bottom, top]⟩]
  · rw [imageOccupied, image_empty image hx]
    rfl

end Sys2Proof.Machine
end

section
/-! SUPPORT. The keys in images and in homes, and the events that will settle homes: what keeps them in agreement
(R100, R101, R126). -/

namespace Sys2Proof.Machine

variable {s t u : State} {g : GroupId} {x : Group} {a : ActiveRewrite} {ws es : List Event} {P Q : Prop}

/-! ### The keys of images -/

/-- The key in a home image of a bank, if it is occupied. -/
def bankKey (m : Memory) (h : Fin 16) : Option Key := if m.read (imageOffset h) = 0 then none else some (imageKey m h)

/-- The key in a home that a capture recorded, if it is occupied. -/
def captureKey (cap : Vector CapturedHome 16) (h : Fin 16) : Option Key :=
  match cap[h] with
  | .occupied x => some x.key
  | .free => none
  | .vacated => none

theorem State.currentKey_eq (s : State) (h : HomeId) :
    s.currentKey h = s.groups[h.group].current.bind fun which => bankKey (s.bank h.group which) h.home := by
  unfold State.currentKey
  cases s.groups[h.group].current <;> rfl

theorem State.capturedKey_eq (s : State) (h : HomeId) :
    s.capturedKey h = s.groups[h.group].capture.bind fun cap => captureKey cap h.home := by
  unfold State.capturedKey captureKey
  cases s.groups[h.group].capture <;> rfl

theorem image_key {m : Memory} {wear : Word} {cap : Vector CapturedHome 16}
    (h : m.readBytes 0 297 = imageBytes g wear cap) (k : Fin 16) : bankKey m k = captureKey cap k := by
  unfold bankKey captureKey
  cases hx : cap[k] with
  | occupied x =>
    obtain ⟨flag, key, -⟩ := image_occupied h hx
    rw [flag, if_neg (by decide)]
    exact congrArg some key
  | free => rw [image_empty h (.inl hx), if_pos rfl]
  | vacated => rw [image_empty h (.inr hx), if_pos rfl]

/-! ### Images, captures and events in agreement -/

/-- An occupied image of a current bank or of a capture has the key that its home holds. -/
def KeysFit (s : State) : Prop :=
  ∀ (h : HomeId) (k : Key), s.currentKey h = some k ∨ s.capturedKey h = some k → s.homeKey h = some k

/-- A spare bank in phase COMMITTING holds the image of its capture. -/
def SparesFit (s : State) : Prop :=
  ∀ (g : GroupId) (at' : Attempt) (cap : Vector CapturedHome 16), s.groups[g].state = .rewriting .committing at' →
    s.groups[g].capture = some cap → (s.spareBank g).readBytes 0 297 = imageBytes g (s.groups[g].wear + 1) cap

/-- The events `ws` will find the homes that they settle without an image, and none of them taken up behind a capture
event of its group; `P` says whether a request is in progress. -/
def EventsFit (s : State) (ws : List Event) (P : Prop) : Prop :=
  (∀ (g : GroupId) (noted : List (Fin 16)), Event.committed g noted ∈ ws → ∀ h ∈ noted,
    s.currentKey ⟨g, h⟩ = none ∧ s.capturedKey ⟨g, h⟩ = none)
  ∧ (∀ (g : GroupId) (cap : Vector CapturedHome 16), s.groups[g].capture = some cap → Event.capture g ∈ ws →
    ¬ P ∧ ∀ h : Fin 16, cap[h] = .vacated → (s.home ⟨g, h⟩).slot? = none)
  ∧ ∀ (g : GroupId) (noted : List (Fin 16)) (pre post : List Event),
    ws = pre ++ Event.committed g noted :: post → Event.capture g ∈ pre →
    ¬ P ∧ ∀ h ∈ noted, (s.home ⟨g, h⟩).slot? = none

/-- Images, captures and events are in agreement. -/
def Fits (s : State) (ws : List Event) (P : Prop) : Prop := KeysFit s ∧ SparesFit s ∧ EventsFit s ws P

theorem imagesSound_iff : ImagesSound s ↔
    (s.phase = .restoring ∨ s.phase = .running → Fits s s.waiting s.servesRequest) := by
  refine ⟨fun h on => ?_, fun h on => ?_⟩
  · obtain ⟨current, captured, spare, events⟩ := h on
    exact ⟨fun h k e => e.elim (current h k) (captured h k), spare, events⟩
  · obtain ⟨keys, spare, events⟩ := h on
    exact ⟨fun h k e => keys h k (.inl e), fun h k e => keys h k (.inr e), spare, events⟩

/-! ### Events that come and go -/

/-- An event that neither takes a capture nor settles homes. -/
def Event.Plain (e : Event) : Prop := (∀ g, e ≠ .capture g) ∧ ∀ g noted, e ≠ .committed g noted

theorem EventsFit.tail {e : Event} (h : EventsFit s (e :: ws) P) : EventsFit s ws P := by
  obtain ⟨settled, captures, commits⟩ := h
  exact ⟨fun g noted m => settled g noted (List.mem_cons_of_mem _ m),
    fun g cap hc m => captures g cap hc (List.mem_cons_of_mem _ m),
    fun g noted pre post e' m => commits g noted (e :: pre) post (by rw [e']; rfl) (List.mem_cons_of_mem _ m)⟩

theorem EventsFit.nil (s : State) (P : Prop) : EventsFit s [] P :=
  ⟨fun _ _ m => absurd m List.not_mem_nil, fun _ _ _ m => absurd m List.not_mem_nil,
    fun _ _ pre _ e _ => by cases pre <;> cases e⟩

theorem EventsFit.serving (h : EventsFit s ws P) (hq : Q → P ∨ ws = []) : EventsFit s ws Q := by
  by_cases none : ws = []
  · subst none; exact .nil s Q
  · have back (q : Q) : P := (hq q).resolve_right none
    obtain ⟨settled, captures, commits⟩ := h
    exact ⟨settled, fun g cap hc m => ⟨(captures g cap hc m).1 ∘ back, (captures g cap hc m).2⟩,
      fun g noted pre post e m => ⟨(commits g noted pre post e m).1 ∘ back, (commits g noted pre post e m).2⟩⟩

/-- A commit event in a list that one event has joined. -/
theorem committed_of_append {e : Event} {noted : List (Fin 16)} {pre post : List Event}
    (h : ws ++ [e] = pre ++ Event.committed g noted :: post) :
    (∃ post', ws = pre ++ Event.committed g noted :: post') ∨ (ws = pre ∧ e = .committed g noted) := by
  rcases List.eq_nil_or_concat post with rfl | ⟨post', last, rfl⟩
  · obtain ⟨front, last⟩ := List.append_inj' h rfl
    exact .inr ⟨front, List.head_eq_of_cons_eq last⟩
  · rw [List.concat_eq_append, ← List.cons_append, ← List.append_assoc] at h
    exact .inl ⟨post', (List.append_inj' h rfl).1⟩

/-- R142: one more event waits. -/
theorem EventsFit.join {e : Event} (h : EventsFit s ws P)
    (capture : ∀ g, e = .capture g → s.groups[g].capture = none)
    (committed : ∀ g noted, e = .committed g noted → (∀ h ∈ noted, s.currentKey ⟨g, h⟩ = none ∧ s.capturedKey ⟨g, h⟩ = none)
      ∧ (Event.capture g ∈ ws → ¬ P ∧ ∀ h ∈ noted, (s.home ⟨g, h⟩).slot? = none)) :
    EventsFit s (ws ++ [e]) P := by
  obtain ⟨settled, captures, commits⟩ := h
  refine ⟨fun g noted m => ?_, fun g cap hc m => ?_, fun g noted pre post e' m => ?_⟩
  · obtain m | m := List.mem_append.1 m
    · exact settled g noted m
    · exact (committed g noted (List.mem_singleton.1 m).symm).1
  · obtain m | m := List.mem_append.1 m
    · exact captures g cap hc m
    · rw [capture g (List.mem_singleton.1 m).symm] at hc
      cases hc
  · obtain ⟨post', h⟩ | ⟨h, last⟩ := committed_of_append e'
    · exact commits g noted pre post' h m
    · subst h
      exact (committed g noted last).2 m

theorem EventsFit.plain (h : EventsFit s ws P) (plain : ∀ e ∈ es, e.Plain) : EventsFit s (ws ++ es) P := by
  induction es generalizing ws with
  | nil => rwa [List.append_nil]
  | cons e es ih =>
    obtain ⟨capture, committed⟩ := plain e (List.mem_cons_self ..)
    have joined : EventsFit s (ws ++ [e]) P :=
      h.join (fun g he => absurd he (capture g)) fun g noted he => absurd he (committed g noted)
    rw [List.append_cons]
    exact ih joined fun e he => plain e (List.mem_cons_of_mem _ he)

/-- Another state with no image and no capture that is not there before. -/
theorem EventsFit.mono (h : EventsFit s ws P)
    (empty : ∀ x, s.currentKey x = none ∧ s.capturedKey x = none → t.currentKey x = none ∧ t.capturedKey x = none)
    (capture : ∀ (g : GroupId) cap, t.groups[g].capture = some cap → s.groups[g].capture = some cap)
    (unoccupied : ¬ P → ∀ x, (s.home x).slot? = none → (t.home x).slot? = none) : EventsFit t ws P := by
  obtain ⟨settled, captures, commits⟩ := h
  refine ⟨fun g noted m h hm => ?_, fun g cap hc m => ?_, fun g noted pre post e m => ?_⟩
  · exact empty _ (settled g noted m h hm)
  · obtain ⟨idle, free⟩ := captures g cap (capture g cap hc) m
    exact ⟨idle, fun h hh => unoccupied idle _ (free h hh)⟩
  · obtain ⟨idle, free⟩ := commits g noted pre post e m
    exact ⟨idle, fun h hh => unoccupied idle _ (free h hh)⟩

/-! ### Moves of the whole -/

theorem Fits.tail {e : Event} (h : Fits s (e :: ws) P) : Fits s ws P := ⟨h.1, h.2.1, h.2.2.tail⟩

theorem Fits.serving (h : Fits s ws P) (hq : Q → P ∨ ws = []) : Fits s ws Q := ⟨h.1, h.2.1, h.2.2.serving hq⟩

theorem Fits.plain (h : Fits s ws P) (plain : ∀ e ∈ es, e.Plain) : Fits s (ws ++ es) P := ⟨h.1, h.2.1, h.2.2.plain plain⟩

theorem State.currentKey_congr (h : HomeId) (hb : t.banks = s.banks)
    (hc : t.groups[h.group].current = s.groups[h.group].current) : t.currentKey h = s.currentKey h := by
  rw [State.currentKey_eq, State.currentKey_eq, hc]
  unfold State.bank
  rw [hb]

theorem State.capturedKey_congr (h : HomeId) (hc : t.groups[h.group].capture = s.groups[h.group].capture) :
    t.capturedKey h = s.capturedKey h := by
  rw [State.capturedKey_eq, State.capturedKey_eq, hc]

/-- The banks as they were and every group record staying, while the homes that hold an image keep their keys. -/
theorem Fits.stays (h : Fits s ws P) (hb : t.banks = s.banks) (hg : ∀ g : GroupId, s.groups[g].Stays t.groups[g])
    (keys : ∀ x k, s.currentKey x = some k ∨ s.capturedKey x = some k → s.homeKey x = some k → t.homeKey x = some k)
    (unoccupied : ¬ P → ∀ x, (s.home x).slot? = none → (t.home x).slot? = none) : Fits t ws P := by
  obtain ⟨fit, spare, events⟩ := h
  have current (x : HomeId) : t.currentKey x = s.currentKey x := State.currentKey_congr x hb (hg x.group).1
  have captured (x : HomeId) : t.capturedKey x = s.capturedKey x := State.capturedKey_congr x (hg x.group).2.1
  refine ⟨fun x k e => ?_, fun g at' cap hs hc => ?_, events.mono
    (fun x e => ⟨(current x).trans e.1, (captured x).trans e.2⟩) (fun g cap hc => (hg g).2.1.symm.trans hc) unoccupied⟩
  · rw [current, captured] at e
    exact keys x k e (fit x k e)
  · obtain ⟨hcur, hcap, hwear, rewriting, -⟩ := hg g
    rw [hwear, State.spareBank, hcur, State.bank, hb]
    exact spare g at' cap ((rewriting _ _).1 hs) (hcap ▸ hc)

theorem Fits.eqs (h : Fits s ws P) (hs : t.slots = s.slots) (hh : t.homeMap = s.homeMap) (hb : t.banks = s.banks)
    (hg : t.groups = s.groups) : Fits t ws P :=
  h.stays hb (fun g => by rw [hg]; exact .refl _)
    (fun x k _ e => (State.homeKey_congr hh x fun i => by rw [hs]).trans e)
    fun _ x e => by rw [State.home_congr hh]; exact e

theorem CurrentKept.currentKey (hb : CurrentKept s t) (x : HomeId)
    (current : t.groups[x.group].current = s.groups[x.group].current) : t.currentKey x = s.currentKey x := by
  rw [State.currentKey_eq, State.currentKey_eq, current]
  cases hc : s.groups[x.group].current with
  | none => rfl
  | some which => exact congrArg (bankKey · x.home) (hb x.group which hc)

/-- The homes as they were, current banks with their images, and no new capture. -/
theorem Fits.change (h : Fits s ws P) (hs : t.slots = s.slots) (hh : t.homeMap = s.homeMap)
    (current : ∀ x, t.currentKey x = s.currentKey x)
    (capture : ∀ (g : GroupId) cap, t.groups[g].capture = some cap → s.groups[g].capture = some cap)
    (spare : SparesFit t) : Fits t ws P := by
  obtain ⟨fit, -, events⟩ := h
  have captured (x : HomeId) (k : Key) (e : t.capturedKey x = some k) : s.capturedKey x = some k := by
    rw [State.capturedKey_eq] at e ⊢
    obtain ⟨cap, hc, hk⟩ := Option.bind_eq_some_iff.1 e
    exact Option.bind_eq_some_iff.2 ⟨cap, capture _ cap hc, hk⟩
  refine ⟨fun x k e => ?_, spare, events.mono (fun x e => ⟨(current x).trans e.1, ?_⟩) capture
    fun _ x e => by rw [State.home_congr hh]; exact e⟩
  · rw [State.homeKey_congr hh x fun i => by rw [hs]]
    exact fit x k (e.imp (fun e => (current x) ▸ e) (captured x k))
  · cases hk : t.capturedKey x with
    | none => rfl
    | some k => rw [captured x k hk] at e; cases e.2

/-- One group record changed, and of the banks at most its spare one. -/
theorem Fits.setGroup (h : Fits s ws P) (hs : t.slots = s.slots) (hh : t.homeMap = s.homeMap) (hb : CurrentKept s t)
    (hg : t.groups = s.groups.set g x) (others : ∀ g' : GroupId, g' ≠ g → t.banks[g'] = s.banks[g'])
    (current : x.current = s.groups[g].current) (capture : ∀ cap, x.capture = some cap → s.groups[g].capture = some cap)
    (spare : ∀ at' cap, x.state = .rewriting .committing at' → x.capture = some cap →
      (t.bank g (spareOf s.groups[g].current)).readBytes 0 297 = imageBytes g (x.wear + 1) cap) : Fits t ws P := by
  have self : t.groups[g] = x := by rw [hg, vector_set_at, if_pos rfl]
  have other (g' : GroupId) (ne : g' ≠ g) : t.groups[g'] = s.groups[g'] := by
    rw [hg, vector_set_at, if_neg (Ne.symm ne)]
  have same (g' : GroupId) : t.groups[g'].current = s.groups[g'].current := by
    by_cases e : g' = g
    · subst e; rw [self, current]
    · rw [other _ e]
  refine h.change hs hh (fun y => hb.currentKey y (same _)) (fun g' cap hc => ?_) fun g' at' cap hst hc => ?_
  · by_cases e : g' = g
    · subst e; rw [self] at hc; exact capture cap hc
    · rwa [other g' e] at hc
  · by_cases e : g' = g
    · subst e
      rw [State.spareBank, self, current]
      rw [self] at hst hc
      exact spare at' cap hst hc
    · rw [other g' e] at hst hc ⊢
      rw [State.spareBank, other g' e, State.bank, others g' e]
      exact h.2.1 g' at' cap hst hc

end Sys2Proof.Machine
end

section
/-! PROOFS. Restore (R109 to R112): the straps and group records (O16), and what it loads from the banks (O17). -/

namespace Sys2Proof

/-- The place of a home in the order of homes (R11). -/
def HomeId.place (h : HomeId) : Nat := 16 * h.group.val + h.home.val

theorem HomeId.place_inj {a b : HomeId} (h : a.place = b.place) : a = b := by
  obtain ⟨⟨g, hg⟩, ⟨k, hk⟩⟩ := a
  obtain ⟨⟨g', hg'⟩, ⟨k', hk'⟩⟩ := b
  simp only [HomeId.place] at h
  obtain ⟨rfl, rfl⟩ : g = g' ∧ k = k' := by omega
  rfl

theorem HomeId.place_lt (h : HomeId) : h.place < 256 := by
  unfold HomeId.place
  omega

end Sys2Proof

namespace Sys2Proof.Machine

variable {s t v : State} {g : GroupId} {m : Memory} {k : Fin 16} {n : Nat} {i : Slot} {r : Record} {h : HomeId}

/-! ### The order of homes (R11, R111) -/

theorem homeBefore_iff {a b : HomeId} : homeBefore a b ↔ a.place < b.place := by
  obtain ⟨⟨g, hg⟩, ⟨k, hk⟩⟩ := a
  obtain ⟨⟨g', hg'⟩, ⟨k', hk'⟩⟩ := b
  simp only [homeBefore, HomeId.place, Fin.lt_def, Fin.mk.injEq]
  omega

/-! ### The images that restore loads from -/

/-- The bank that restore chooses for a group (R106). -/
def State.chosenBank (s : State) (g : GroupId) : Option BankId :=
  chooseCurrent (judgeBank g (s.bank g .a)) (judgeBank g (s.bank g .b)) (bankWear (s.bank g .a)) (bankWear (s.bank g .b))

theorem State.storedImage_none (hc : s.chosenBank g = none) (k : Fin 16) : s.storedImage ⟨g, k⟩ = none := by
  unfold State.storedImage
  unfold State.chosenBank at hc
  dsimp only
  rw [hc]

theorem State.storedImage_some {which : BankId} (hc : s.chosenBank g = some which) (k : Fin 16) :
    s.storedImage ⟨g, k⟩ = if (s.bank g which).read (imageOffset k) = 0 then none
      else some (imageKey (s.bank g which) k, imageRecord (s.bank g which) g k) := by
  unfold State.storedImage
  unfold State.chosenBank at hc
  dsimp only
  rw [hc]
  rfl

theorem State.storedImage_congr (hb : t.banks = s.banks) (h : HomeId) : t.storedImage h = s.storedImage h := by
  unfold State.storedImage State.bank
  rw [hb]

/-- A sound image is loaded under the home's own name and the image's key. -/
theorem storedImage_record {key : Key} (hx : s.storedImage h = some (key, some r)) :
    r.key = key ∧ r.home = some h ∧ (r.key ≠ 0x0000 ∧ r.key ≠ 0xFFFF) := by
  obtain ⟨g, k⟩ := h
  cases hc : s.chosenBank g with
  | none => rw [State.storedImage_none hc] at hx; cases hx
  | some which =>
    rw [State.storedImage_some hc] at hx
    split at hx
    · cases hx
    · obtain ⟨key, record⟩ := Prod.mk.inj (Option.some.inj hx)
      exact ⟨(imageRecord_key record).1.trans key, imageRecord_home record, (imageRecord_key record).2⟩

/-- Where a home's sound image is not loaded, an earlier one of its key is. -/
theorem State.exists_loads (s : State) {key : Key} {r : Record} (n : Nat) :
    ∀ h : HomeId, h.place = n → s.storedImage h = some (key, some r) →
      ∃ h' r', s.loads h' r' ∧ r'.key = key ∧ h'.place ≤ n := by
  induction n using Nat.strong_induction_on generalizing r with
  | _ n ih =>
    intro h hp hx
    obtain ⟨hk, -, -⟩ := storedImage_record hx
    by_cases first : s.loads h r
    · exact ⟨h, r, first, hk, hp.le⟩
    · have earlier : ∃ h', homeBefore h' h ∧ ∃ r', s.storedImage h' = some (key, some r') := by
        by_contra none
        exact first ⟨hk ▸ hx, fun h' before r' hx' => none ⟨h', before, r', hk ▸ hx'⟩⟩
      obtain ⟨h', before, r', hx'⟩ := earlier
      have less : h'.place < n := hp ▸ homeBefore_iff.1 before
      obtain ⟨h'', r'', loads, hk'', le⟩ := ih h'.place less h' rfl hx'
      exact ⟨h'', r'', loads, hk'', le.trans less.le⟩

theorem State.loads_inj {h h' : HomeId} {r r' : Record} (hl : s.loads h r) (hl' : s.loads h' r') (hk : r.key = r'.key) :
    h = h' := by
  by_contra ne
  obtain less | less := Nat.lt_or_gt_of_ne (fun e => ne (HomeId.place_inj e))
  · exact hl'.2 h (homeBefore_iff.2 less) r (hk ▸ hl.1)
  · exact hl.2 h' (homeBefore_iff.2 less) r' (hk ▸ hl'.1)

/-! ### What restore has made of the homes that it has gone through -/

/-- The state `v` of a restore that began in `s` and has gone through the first `n` homes. -/
structure Restored (s : State) (n : Nat) (v : State) : Prop where
  banks : v.banks = s.banks
  table : TableSound v
  free : ∀ h : HomeId, n ≤ h.place ∨ s.storedImage h = none → v.home h = .free
  vacated : ∀ (h : HomeId) (k : Key) (x : Option Record), h.place < n → s.storedImage h = some (k, x) →
    (∀ r, ¬ s.loads h r) → v.home h = .vacated k
  loaded : ∀ (h : HomeId) (r : Record), h.place < n → s.loads h r → ∃ i, v.slots[i] = some r ∧ v.home h = .occupied i
  only : ∀ (i : Slot) (r : Record), v.slots[i] = some r → ∃ h, h.place < n ∧ r.home = some h ∧ s.loads h r

namespace Restored

theorem eqs (hv : Restored s n v) (hb : t.banks = v.banks) (hs : t.slots = v.slots) (hi : t.index = v.index)
    (hh : t.homeMap = v.homeMap) : Restored s n t := by
  obtain ⟨banks, table, free, vacated, loaded, only⟩ := hv
  have home (h : HomeId) : t.home h = v.home h := State.home_congr hh h
  refine ⟨hb.trans banks, table.eqs hs hi hh, ?_, ?_, ?_, ?_⟩
  all_goals simp only [home, hs]
  · exact free
  · exact vacated
  · exact loaded
  · exact only

/-- A home without an image is gone through. -/
theorem skip (hv : Restored s h.place v) (none : s.storedImage h = none) : Restored s (h.place + 1) v := by
  obtain ⟨banks, table, free, vacated, loaded, only⟩ := hv
  have before {x : HomeId} (less : x.place < h.place + 1) (ne : s.storedImage x ≠ Option.none) : x.place < h.place := by
    by_contra no
    obtain rfl := HomeId.place_inj (show x.place = h.place by omega)
    exact ne none
  refine ⟨banks, table, fun x hx => free x (hx.imp_left fun le => by omega), fun x k y less hx => ?_,
    fun x r less hl => ?_, fun i r hr => ?_⟩
  · exact vacated x k y (before less (by rw [hx]; nofun)) hx
  · exact loaded x r (before less (by rw [hl.1]; nofun)) hl
  · obtain ⟨x, less, rest⟩ := only i r hr
    exact ⟨x, by omega, rest⟩

/-- A slot is FREE: every record has a home of its own. -/
theorem exists_free (hv : Restored s n v) : v.freeSlot ≠ none := fun full => by
  have all (i : Slot) : ∃ h : HomeId, v.home h = .occupied i := by
    have some : v.slots[i] ≠ none := fun e =>
      List.find?_eq_none.1 full i (List.mem_finRange i) (by show v.slots[i].isNone = true; rw [e]; rfl)
    obtain ⟨r, hr⟩ := Option.ne_none_iff_exists'.1 some
    obtain ⟨h, -, home, -⟩ := hv.only i r hr
    exact ⟨h, hv.table.2.2 i r hr h home⟩
  choose home homes using all
  have inj : Function.Injective fun i => ((home i).group, (home i).home) := fun i j e => by
    obtain ⟨eg, eh⟩ := Prod.mk.inj e
    have same : home i = home j := by
      cases hi : home i; cases hj : home j
      rw [hi, hj] at eg eh
      cases eg; cases eh; rfl
    exact Home.occupied.inj ((homes i).symm.trans (same ▸ homes j))
  have card := Fintype.card_le_of_injective _ inj
  simp at card

/-- A home whose image is not loaded is VACATED under the key as read. -/
theorem vacate (hv : Restored s h.place v) {key : Key} {x : Option Record} (hx : s.storedImage h = some (key, x))
    (no : ∀ r, ¬ s.loads h r) : Restored s (h.place + 1) (v.setHome h (.vacated key)) := by
  obtain ⟨banks, table, free, vacated, loaded, only⟩ := hv
  have last {y : HomeId} (less : y.place < h.place + 1) (ne : y ≠ h) : y.place < h.place := by
    have : y.place ≠ h.place := fun e => ne (HomeId.place_inj e)
    omega
  have empty : v.home h = .free := free h (.inl (le_refl _))
  refine ⟨banks, ⟨table.1.eqs rfl rfl, ?_⟩, fun y hy => ?_, fun y k z less hz none => ?_, fun y r less hl => ?_,
    fun i r hr => ?_⟩
  · obtain ⟨occupied, homes⟩ := table.2
    refine ⟨fun g' k' i hi => ?_, fun i r hr y hy => ?_⟩
    · rw [State.setHome_at] at hi
      split at hi
      · cases hi
      · exact occupied g' k' i hi
    · have at' := homes i r hr y hy
      rw [State.setHome_at, if_neg]
      · exact at'
      · rintro rfl
        rw [empty] at at'
        cases at'
  · rw [State.setHome_at, if_neg]
    · exact free y (hy.imp_left fun le => by omega)
    · rintro rfl
      rw [hx] at hy
      exact hy.elim (fun le => by omega) nofun
  · rw [State.setHome_at]
    split
    · subst y
      rw [hx] at hz
      rw [(Prod.mk.inj (Option.some.inj hz)).1]
    · exact vacated y k z (last less ‹_›) hz none
  · have ne : y ≠ h := by rintro rfl; exact no r hl
    obtain ⟨i, hi, home⟩ := loaded y r (last less ne) hl
    exact ⟨i, hi, by rw [State.setHome_at, if_neg ne, home]⟩
  · obtain ⟨y, less, rest⟩ := only i r hr
    exact ⟨y, by omega, rest⟩

/-- A home whose image is loaded is occupied by its record. -/
theorem load (hv : Restored s h.place v) (hl : s.loads h r) (empty : v.slots[i] = none) :
    Restored s (h.place + 1) (v.install i r) := by
  obtain ⟨banks, table, free, vacated, loaded, only⟩ := hv
  obtain ⟨-, home, key⟩ := storedImage_record hl.1
  have last {y : HomeId} (less : y.place < h.place + 1) (ne : y ≠ h) : y.place < h.place := by
    have : y.place ≠ h.place := fun e => ne (HomeId.place_inj e)
    omega
  have at' (y : HomeId) : (v.install i r).home y = if y = h then .occupied i else v.home y := by
    rw [State.install_home, home]
    exact if_congr ⟨fun e => (Option.some.inj e).symm, fun e => by rw [e]⟩ rfl rfl
  have unoccupied : (v.home h).slot? = none := by rw [free h (.inl (le_refl _))]; rfl
  have absent : ∀ e ∈ v.index, e.key ≠ r.key := fun e he hk => by
    have found := table.1.2.1 e he
    obtain ⟨r', hr', hk'⟩ := Option.map_eq_some_iff.1 found
    obtain ⟨h', less, -, hl'⟩ := only _ r' hr'
    have := State.loads_inj hl' hl (hk'.trans hk)
    subst this
    omega
  refine ⟨by simpa using banks, ⟨table.1.install empty absent key, table.2.install empty fun x hx => ?_⟩,
    fun y hy => ?_, fun y k z less hz none => ?_, fun y r' less hl' => ?_, fun j r' hr' => ?_⟩
  · rw [home] at hx
    cases hx
    exact unoccupied
  · rw [at', if_neg]
    · exact free y (hy.imp_left fun le => by omega)
    · rintro rfl
      rw [hl.1] at hy
      exact hy.elim (fun le => by omega) nofun
  · have ne : y ≠ h := by rintro rfl; exact none r hl
    rw [at', if_neg ne]
    exact vacated y k z (last less ne) hz none
  · rw [at']
    split
    · subst y
      have same : r' = r := by
        have e := hl'.1.symm.trans hl.1
        exact Option.some.inj (Prod.mk.inj (Option.some.inj e)).2
      exact ⟨i, by rw [State.install_at, if_pos rfl, same], rfl⟩
    · obtain ⟨j, hj, home⟩ := loaded y r' (last less ‹_›) hl'
      refine ⟨j, ?_, home⟩
      rw [State.install_at, if_neg]
      · exact hj
      · rintro rfl
        rw [empty] at hj
        cases hj
  · rw [State.install_at] at hr'
    split at hr'
    · cases hr'
      exact ⟨h, by omega, home, hl⟩
    · obtain ⟨y, less, rest⟩ := only j r' hr'
      exact ⟨y, by omega, rest⟩

/-- R111, R112: one home of a chosen bank is gone through. -/
theorem home (hv : Restored s (⟨g, k⟩ : HomeId).place v) {which : BankId} (hc : s.chosenBank g = some which) :
    Restored s ((⟨g, k⟩ : HomeId).place + 1) (v.restoreHome (s.bank g which) g k) := by
  have image := State.storedImage_some hc k
  generalize s.bank g which = m at image
  unfold State.restoreHome
  by_cases hz : m.read (imageOffset k) = 0
  · rw [if_neg (by rw [imageOccupied, decide_eq_true_iff, not_not]; exact hz)]
    rw [if_pos hz] at image
    exact hv.skip image
  · rw [if_pos (by rw [imageOccupied, decide_eq_true_iff]; exact hz)]
    rw [if_neg hz] at image
    cases hr : imageRecord m g k with
    | none =>
      rw [hr] at image
      exact hv.vacate image fun r hl => absurd (congrArg Prod.snd (Option.some.inj (hl.1.symm.trans image))) nofun
    | some r =>
      rw [hr] at image
      obtain ⟨hk, -, -⟩ := storedImage_record image
      cases hf : v.lookup (imageKey m k) with
      | some e =>
        obtain ⟨i, r'⟩ := e
        obtain ⟨slot, e, listed, he, rfl⟩ := State.lookup_some hf
        have found := hv.table.1.2.1 e listed
        rw [slot, he] at found
        obtain ⟨h', less, -, hl'⟩ := hv.only _ r' slot
        refine hv.vacate image fun r'' hl => hl.2 h' (homeBefore_iff.2 less) r' ?_
        have key : r''.key = imageKey m k := congrArg Prod.fst (Option.some.inj (hl.1.symm.trans image))
        rw [key, ← Option.some.inj found]
        exact hl'.1
      | none =>
        cases hs : v.freeSlot with
        | none => exact absurd hs hv.exists_free
        | some i =>
          refine hv.load ⟨hk ▸ image, fun h' before r' hx => ?_⟩ (State.freeSlot_some hs)
          obtain ⟨h'', r'', hl, hk', le⟩ := s.exists_loads _ h' rfl hx
          obtain ⟨j, hj, -⟩ := hv.loaded h'' r'' (lt_of_le_of_lt le (homeBefore_iff.1 before)) hl
          have found := hv.table.1.lookup_eq hj
          rw [hk', hk, hf] at found
          cases found

/-- A group without a current bank is gone through. -/
theorem skipGroup (hv : Restored s (16 * g.val) v) (hc : s.chosenBank g = none) : Restored s (16 * (g.val + 1)) v := by
  have run (j : Nat) (hj : j ≤ 16) : Restored s (16 * g.val + j) v := by
    induction j with
    | zero => exact hv
    | succ j ih =>
      have here : (⟨g, ⟨j, hj⟩⟩ : HomeId).place = 16 * g.val + j := rfl
      rw [← Nat.add_assoc, ← here]
      exact skip (h := ⟨g, ⟨j, hj⟩⟩) (ih (by omega)) (State.storedImage_none hc _)
  exact run 16 (le_refl _)

/-- The homes of a chosen bank from one on are gone through. -/
theorem homes {which : BankId} (hc : s.chosenBank g = some which) (d j : Nat) (hd : d + j = 16)
    (hv : Restored s (16 * g.val + j) v) :
    Restored s (16 * (g.val + 1)) (v.restoreHomes (s.bank g which) g ((List.finRange 16).drop j)) := by
  induction d generalizing j v with
  | zero =>
    obtain rfl : j = 16 := by omega
    exact hv
  | succ d ih =>
    have next : (List.finRange 16).drop j = ⟨j, by omega⟩ :: (List.finRange 16).drop (j + 1) := by
      rw [List.drop_eq_getElem_cons (by simp; omega)]
      simp
    rw [next]
    exact ih (j + 1) (by omega) (home (k := ⟨j, by omega⟩) hv hc)

/-- R109: one group of a restore. -/
theorem group (hv : Restored s (16 * g.val) v) : Restored s (16 * (g.val + 1)) (v.restoreGroup g) := by
  have chosen : (restoredGroup g v.banks[g]).current = s.chosenBank g := by rw [hv.banks]; rfl
  have bank (which : BankId) : v.bank g which = s.bank g which := by rw [State.bank, hv.banks]; rfl
  unfold State.restoreGroup
  dsimp only
  split <;> rename_i hc
  · exact (hv.skipGroup (chosen.symm.trans hc)).eqs rfl rfl rfl rfl
  · rw [bank]
    exact homes (chosen.symm.trans hc) 16 0 rfl (hv.eqs rfl rfl rfl rfl)

/-- R109: the groups from one on are gone through. -/
theorem groups (d j : Nat) (hd : d + j = 16) (hv : Restored s (16 * j) v) :
    Restored s 256 (v.restoreGroups ((List.finRange 16).drop j)) := by
  induction d generalizing j v with
  | zero =>
    obtain rfl : j = 16 := by omega
    exact hv
  | succ d ih =>
    have next : (List.finRange 16).drop j = ⟨j, by omega⟩ :: (List.finRange 16).drop (j + 1) := by
      rw [List.drop_eq_getElem_cons (by simp; omega)]
      simp
    rw [next]
    exact ih (j + 1) (by omega) (group (g := ⟨j, by omega⟩) hv)

end Restored

/-- R109: a restore of an empty table goes through every home. -/
theorem HeldSound.goesThrough (held : HeldSound s) (hp : s.phase = .reset) (v0 v1 v2 v3 : Privilege) :
    Restored s 256 ((s.beginRestore.sampleStraps v0 v1 v2 v3).restoreGroups (List.finRange 16)) := by
  obtain ⟨slots, index, homes, -⟩ := held (.inr hp)
  refine Restored.groups 16 0 rfl ⟨rfl, .empty slots index fun h => homes h.group h.home, fun h _ => homes h.group h.home,
    fun _ _ _ less => absurd less (Nat.not_lt_zero _), fun _ _ less => absurd less (Nat.not_lt_zero _), fun i r hr => ?_⟩
  exact absurd (hr.symm.trans (slots i)) nofun

theorem exec_restore (hp : s.phase = .reset) (v0 v1 v2 v3 : Privilege) :
    exec (.restore v0 v1 v2 v3) s =
      .next ((s.beginRestore.sampleStraps v0 v1 v2 v3).restoreGroups (List.finRange 16)) := by
  show execRestore v0 v1 v2 v3 s = _
  exact if_pos hp

/-- Settles O17: restore goes through the homes in their order, and what it has made of those before stands. -/
theorem restoreLoadsTheImages : Obligations.RestoreLoadsTheImages := by
  intro s t a b c d hp held he
  obtain rfl := Host.Outcome.next.inj ((exec_restore hp a b c d).symm.trans he)
  obtain ⟨-, table, free, vacated, loaded, only⟩ := held.goesThrough hp a b c d
  refine ⟨fun h r hl => ?_, fun h k x hx no => vacated h k x h.place_lt hx no, fun h hx => free h (.inr hx),
    fun i r hr => ?_⟩
  · obtain ⟨i, hi, home⟩ := loaded h r h.place_lt hl
    exact ⟨i, table.1.lookup_eq hi, home⟩
  · obtain ⟨h, -, home, hl⟩ := only i r hr
    exact ⟨h, home, hl⟩

/-- A state of which another has all but the table and the group records. -/
theorem State.eq_of_restoreGroups (s : State) (gs : List GroupId) :
    s.restoreGroups gs = { s with
      slots := (s.restoreGroups gs).slots, index := (s.restoreGroups gs).index
      homeMap := (s.restoreGroups gs).homeMap, groups := (s.restoreGroups gs).groups } := by
  have frame := s.restoreGroups_frame gs
  generalize s.restoreGroups gs = t at frame ⊢
  cases t
  dsimp only at frame ⊢
  obtain ⟨rfl, rfl, rfl, rfl, rfl, rfl, rfl, rfl, rfl, rfl, rfl, rfl, rfl, rfl, rfl, rfl, rfl⟩ := frame
  rfl

theorem vector_ext {α : Type} {n : Nat} {v w : Vector α n} (h : ∀ i : Fin n, v[i] = w[i]) : v = w :=
  Vector.ext fun i hi => h ⟨i, hi⟩

theorem sampled_ports (s : State) (v : PortId → Privilege) :
    (s.sampleStraps (v 0) (v 1) (v 2) (v 3)).ports = Vector.ofFn fun q => { s.ports[q] with privilege := v q } := by
  refine vector_ext fun q => ?_
  have strap : #v[v 0, v 1, v 2, v 3][q] = v q := by fin_cases q <;> rfl
  rw [sampleStraps_at, strap]
  simp

/-- R110: a group record as restore sets it. -/
theorem restoredGroup_eq (s : State) (g : GroupId) (w : Word)
    (hw : w = ((s.chosenBank g).map fun which => bankWear (s.bank g which)).getD 0) :
    restoredGroup g s.banks[g] = { blankGroup with
      state := if 200000 ≤ w.toNat then .worn else .clean, current := s.chosenBank g, wear := w
      restoreLost := decide (s.chosenBank g = none
        ∧ ¬ (judgeBank g (s.bank g .a) = .erased ∧ judgeBank g (s.bank g .b) = .erased)) } := by
  have wear : (restoredGroup g s.banks[g]).wear = w := by
    rw [hw]
    show (match s.chosenBank g with
      | none => 0
      | some which => bankWear (s.bank g which)) = _
    cases s.chosenBank g <;> rfl
  have state := restoredGroup_state g s.banks[g]
  have lost : (restoredGroup g s.banks[g]).restoreLost = decide (s.chosenBank g = none
      ∧ ¬ (judgeBank g (s.bank g .a) = .erased ∧ judgeBank g (s.bank g .b) = .erased)) := by
    show ((s.chosenBank g).isNone && !(bankErased (s.bank g .a) && bankErased (s.bank g .b))) = _
    simp only [judgeBank_erased_iff]
    rw [Bool.eq_iff_iff, decide_eq_true_iff]
    cases bankErased (s.bank g .a) <;> simp
  rw [wear] at state
  rw [← state, ← lost, ← wear]
  rfl

/-- Settles O16: the straps are sampled first, and each group record is set once. -/
theorem restoreSetsStrapsAndGroups : Obligations.RestoreSetsStrapsAndGroups := by
  intro s v hp
  refine ⟨_, exec_restore hp _ _ _ _, ?_, fun g => ?_⟩
  · conv_lhs => rw [State.eq_of_restoreGroups, sampled_ports]
    rfl
  · intro a b c w
    rw [State.restoreGroups_at, if_pos (List.mem_finRange g)]
    refine (restoredGroup_eq s g w ?_).trans rfl
    show (match s.chosenBank g with
      | none => 0
      | some which => bankWear (s.bank g which)) = _
    cases s.chosenBank g <;> rfl

end Sys2Proof.Machine
end

section
/-! PROOFS. Every step keeps every occupied image under the key that its home holds (O12). -/

namespace Sys2Proof.Machine

variable {s t u : State} {g : GroupId} {x : Group} {a : ActiveRewrite} {ws es : List Event} {P Q : Prop} {c : Instr}
  {p : PortId} {f : RequestFrame} {i : Slot} {r : Record}

/-! ### The events that an item raises (R67, R77) -/

/-- Expiry events alone join the list. -/
def EventsGrow (s t : State) : Prop :=
  ∃ es : List Event, t.events = s.events ++ es ∧ ∀ e ∈ es, ∃ kind key p n, e = .expiry kind key p n

theorem EventsGrow.of_eq (h : t.events = s.events) : EventsGrow s t := ⟨[], by rw [h, List.append_nil], by simp⟩

theorem EventsGrow.refl (s : State) : EventsGrow s s := .of_eq rfl

theorem EventsGrow.trans (h : EventsGrow s t) (h' : EventsGrow t u) : EventsGrow s u := by
  obtain ⟨es, e, plain⟩ := h
  obtain ⟨es', e', plain'⟩ := h'
  exact ⟨es ++ es', by rw [e', e, List.append_assoc], fun e he => (List.mem_append.1 he).elim (plain e) (plain' e)⟩

theorem EventsGrow.congr (h : EventsGrow s t) (hu : u.events = t.events) : EventsGrow s u := h.trans (.of_eq hu)

theorem EventsGrow.addDeadline (s : State) (kind : DeadlineKind) (key : Key) (q : PortId) (len : Ticks) :
    EventsGrow s (s.addDeadline kind key q len) := by
  cases hl : s.late len with
  | true =>
    rw [State.addDeadline_late hl]
    refine ⟨s.dueDeadlines.map Deadline.event ++ [.expiry kind key q s.nextSerial], List.append_assoc .., fun e he => ?_⟩
    obtain he | he := List.mem_append.1 he
    · obtain ⟨d, -, rfl⟩ := List.mem_map.1 he
      exact ⟨_, _, _, _, rfl⟩
    · exact ⟨_, _, _, _, List.mem_singleton.1 he⟩
  | false =>
    rw [State.addDeadline_ahead hl]
    exact .of_eq rfl

theorem EventsGrow.grant (s : State) (i : Slot) (r : Record) (q : PortId) (len : Ticks) :
    EventsGrow s (s.grant i r q len) := by
  unfold State.grant
  split
  · exact .of_eq rfl
  · exact (EventsGrow.addDeadline s _ _ _ _).congr rfl

theorem EventsGrow.handoff (s : State) (i : Slot) : EventsGrow s (s.handoff i) := by
  unfold State.handoff
  split
  · exact .refl s
  · split
    · rename_i r _ _ w rest _
      exact (EventsGrow.trans (t := s.dropClaim w) (.of_eq (by simp))
        (.grant _ i { r with waiters := rest } w.port w.leaseAsked)).congr (by simp)
    · exact .of_eq (by split <;> simp)

theorem EventsGrow.endHold (s : State) (i : Slot) (expired : Bool) : EventsGrow s (s.endHold i expired) := by
  unfold State.endHold
  split
  · exact .refl s
  · split
    · exact (EventsGrow.of_eq (by simp)).trans (.handoff _ i)
    · exact (EventsGrow.of_eq (by simp)).trans (.handoff _ i)

theorem EventsGrow.endHolds (s : State) (slots : List Slot) : EventsGrow s (s.endHolds slots) := by
  induction slots generalizing s with
  | nil => exact .refl s
  | cons i slots ih => exact (EventsGrow.endHold s i false).trans (ih _)

theorem EventsGrow.setLease (s : State) (i : Slot) (r : Record) (len : Ticks) : EventsGrow s (s.setLease i r len) := by
  unfold State.setLease
  dsimp only
  split
  · exact .of_eq (by simp)
  · split
    · exact .of_eq (by simp)
    · rename_i q _ _
      exact (EventsGrow.trans (t := s.removeDeadline r.lease) (.of_eq (by simp))
        (.addDeadline _ .lease r.key q len)).congr (by simp)

theorem EventsGrow.evict (s : State) (p : PortId) (fills : Bool) : EventsGrow s (s.evict p fills) :=
  (EventsGrow.endHolds s (s.heldSlots p)).congr (by simp [State.evict, State.evictWork])

theorem Served.eventsGrow (h : Served p f s u) : EventsGrow s u := by
  cases h with
  | granted i r len a => exact (EventsGrow.grant s i r p len).congr (by simp)
  | raised i r len a =>
    refine EventsGrow.congr (t := s.raiseHold i r len) ?_ (by simp)
    unfold State.raiseHold
    dsimp only
    split
    · exact .of_eq rfl
    · exact .setLease s _ _ _
  | parked i r h mode =>
    refine EventsGrow.congr (t := s.addWait p r.key mode) ?_ (by simp [State.parkClaim])
    unfold State.addWait
    split
    · exact .refl s
    · exact .refl s
    · exact .addDeadline s _ _ _ _
  | released i r a => exact (EventsGrow.endHold s i false).congr (by simp)
  | renewed i r len a => exact (EventsGrow.setLease s i r len).congr (by simp)
  | evicted v a => exact (EventsGrow.evict s v true).congr (by simp)
  | created => exact .of_eq (by simp [createIn])
  | retiredNow => exact .of_eq (by simp [retireNow])
  | retiredLater => exact .of_eq (by simp [retireLater])
  | _ => exact .of_eq (by simp)

theorem Handled.eventsGrow {e : Event} (h : Handled s e u) : EventsGrow s u := by
  cases h with
  | discarded => exact .refl s
  | leaseExpired key p n i => exact .endHold s i true
  | evicted p => exact .evict s p false
  | _ => exact .of_eq (by simp)

/-! ### The end of an item -/

theorem Fits.finish (h : Fits u s.events P) (hu : EventsGrow s u) :
    Fits u.finish u.finish.waiting u.finish.servesRequest := by
  obtain ⟨es, e, plain⟩ := hu
  have joined : Fits u u.events P := by
    rw [e]
    exact h.plain fun e he => by
      obtain ⟨kind, key, p, n, rfl⟩ := plain e he
      exact ⟨nofun, nofun⟩
  rw [State.finish_waiting]
  refine Fits.serving (Fits.eqs joined (by simp) (by simp) (by simp) (by simp)) fun serves => .inr ?_
  rw [← State.finish_waiting]
  exact State.finish_serves serves

/-! ### The item of a request -/

theorem Served.stays (h : Served p f s u) (g : GroupId) : s.groups[g].Stays u.groups[g] := h.storeMove.groups g

theorem State.homeKey_free {h : HomeId} (e : s.home h = .free) : s.homeKey h = none := by rw [State.homeKey, e]

theorem State.homeKey_vacated {h : HomeId} {k : Key} (e : s.home h = .vacated k) : s.homeKey h = some k := by
  rw [State.homeKey, e]

theorem State.homeKey_occupied {h : HomeId} (e : s.home h = .occupied i) :
    s.homeKey h = s.slots[i].map Record.key := by rw [State.homeKey, e]

/-- The keys of the homes where a record joins the table in a FREE slot. -/
theorem State.install_homeKey (hs : HomesSound s) (empty : s.slots[i] = none) (r : Record) (x : HomeId) :
    (s.install i r).homeKey x = if r.home = some x then some r.key else s.homeKey x := by
  have home := s.install_home i r x
  split <;> rename_i taken
  · rw [if_pos taken] at home
    rw [State.homeKey_occupied home, State.install_at, if_pos rfl]
    rfl
  · rw [if_neg taken] at home
    cases hx : s.home x with
    | free => rw [State.homeKey_free hx, State.homeKey_free (home.trans hx)]
    | vacated k => rw [State.homeKey_vacated hx, State.homeKey_vacated (home.trans hx)]
    | occupied j =>
      have ne : i ≠ j := by
        rintro rfl
        have := hs.1 x.group x.home i (by rw [show (⟨x.group, x.home⟩ : HomeId) = x from rfl, hx]; rfl)
        rw [empty] at this
        cases this
      rw [State.homeKey_occupied hx, State.homeKey_occupied (home.trans hx), State.install_at, if_neg ne]

/-- R12: the keys of the homes after a CREATE. -/
theorem created_homeKeys (hs : TableSound s) (p : PortId) (g : Guard) (h : Option HomeId) (free : s.freeSlot = some i)
    (x : HomeId) : (createIn p f s i g h).homeKey x = if h = some x then some f.key else s.homeKey x := by
  obtain ⟨slots, -, homes⟩ := createIn_table p f s i g h
  rw [State.homeKey_congr homes x fun j => by rw [slots],
    State.install_homeKey hs.2 (State.freeSlot_some free)]
  rfl

/-- R11: a CREATE takes up a home that is FREE or VACATED under its key. -/
theorem created_homeKey (hs : TableSound s) {g : Guard} {h : Option HomeId} (free : s.freeSlot = some i)
    (home : ∀ x ∈ h, s.chooseHome f.key = some x) (x : HomeId) (k : Key) (hk : s.homeKey x = some k) :
    (createIn p f s i g h).homeKey x = some k := by
  rw [created_homeKeys hs p g h free]
  split
  · rename_i taken
    obtain vacated | none := State.chooseHome_some (home x taken)
    · rw [State.homeKey_vacated vacated] at hk
      exact hk
    · rw [State.homeKey_free none] at hk; cases hk
  · exact hk

theorem Served.fits (h : Served p f s u) (hs : TableSound s) (hf : Fits s ws True) : Fits u ws True := by
  have banks : u.banks = s.banks := h.frame.2.2.2.2.2.2.2.1
  refine hf.stays banks h.stays (fun x k _ hk => ?_) fun no => absurd trivial no
  obtain move | ⟨i, g, home, key, absent, free, choice, rfl⟩ := h.homesMove
  · rw [move.keys hs, hk]
  · exact created_homeKey hs free choice x k hk

/-! ### The item of an internal event -/

/-- R121: a capture holds the keys of the homes that records occupy. -/
theorem captureGroup_key (s : State) (g : GroupId) (h : Fin 16) {k : Key} (hk : captureKey (s.captureGroup g) h = some k) :
    s.homeKey ⟨g, h⟩ = some k ∧ (s.home ⟨g, h⟩).slot? ≠ none := by
  have at' : (s.captureGroup g)[h] = s.captureHome (s.home ⟨g, h⟩) := by
    simp [State.captureGroup, vmap, State.home]
  unfold captureKey at hk
  rw [at'] at hk
  cases hx : s.home ⟨g, h⟩ with
  | free => rw [hx] at hk; cases hk
  | vacated k' => rw [hx] at hk; cases hk
  | occupied i =>
    rw [State.homeKey_occupied hx]
    rw [hx, State.captureHome] at hk
    cases hr : s.slots[i] with
    | none => rw [hr] at hk; cases hk
    | some r =>
      rw [hr] at hk
      exact ⟨hk, nofun⟩

theorem captureGroup_vacated {g : GroupId} {h : Fin 16} (hv : (s.captureGroup g)[h] = .vacated) :
    (s.home ⟨g, h⟩).slot? = none := by
  have at' : (s.captureGroup g)[h] = s.captureHome (s.home ⟨g, h⟩) := by
    simp [State.captureGroup, vmap, State.home]
  rw [at'] at hv
  cases hx : s.home ⟨g, h⟩ with
  | free => rfl
  | vacated k' => rfl
  | occupied i =>
    rw [hx, State.captureHome] at hv
    cases hr : s.slots[i] <;> rw [hr] at hv <;> cases hv

end Sys2Proof.Machine
end

section
/-! PROOFS. Every step keeps every occupied image under the key that its home holds (O12). -/

namespace Sys2Proof.Machine

variable {s t u : State} {g : GroupId} {x : Group} {a : ActiveRewrite} {ws es : List Event} {P Q : Prop} {c : Instr}
  {p : PortId} {f : RequestFrame} {i : Slot} {r : Record}

/-! ### The items of internal events -/

/-- R121: a capture that is accepted holds the keys of the homes as they stand. -/
theorem Fits.captured (h : Fits s (.capture g :: ws) P) (idle : ¬ P) {at' : Attempt}
    (hs : t.slots = s.slots) (hh : t.homeMap = s.homeMap) (hb : t.banks = s.banks)
    (hx : x.state = .rewriting .erasing at' ∧ x.capture = some (s.captureGroup g) ∧ x.current = s.groups[g].current)
    (hg : t.groups = s.groups.set g x) : Fits t ws P := by
  obtain ⟨fit, spares, settled, captures, commits⟩ := h
  obtain ⟨hstate, hcapture, hcurrent⟩ := hx
  have self : t.groups[g] = x := by rw [hg, vector_set_at, if_pos rfl]
  have other (g' : GroupId) (ne : g' ≠ g) : t.groups[g'] = s.groups[g'] := by
    rw [hg, vector_set_at, if_neg (Ne.symm ne)]
  have current (y : HomeId) : t.currentKey y = s.currentKey y := State.currentKey_congr y hb (by
    by_cases e : y.group = g
    · have := (congrArg Group.current self).trans hcurrent
      subst e; exact this
    · rw [other _ e])
  have captured (g' : GroupId) (ne : g' ≠ g) (k : Fin 16) : t.capturedKey ⟨g', k⟩ = s.capturedKey ⟨g', k⟩ :=
    State.capturedKey_congr _ (by rw [other g' ne])
  have taken (k : Fin 16) : t.capturedKey ⟨g, k⟩ = captureKey (s.captureGroup g) k := by
    rw [State.capturedKey_eq, self, hcapture]
    rfl
  have home (y : HomeId) : t.home y = s.home y := State.home_congr hh y
  refine ⟨fun y k e => ?_, fun g' at'' cap hst hc => ?_, fun g' noted m k hk => ⟨(current _).trans ?_, ?_⟩,
    fun g' cap hc m => ⟨idle, fun k hk => ?_⟩, fun g' noted pre post e m => ?_⟩
  · rw [State.homeKey_congr hh y fun i => by rw [hs]]
    obtain e | e := e
    · exact fit y k (.inl ((current y).symm.trans e))
    · obtain ⟨g', k'⟩ := y
      by_cases ne : g' = g
      · subst ne
        exact (captureGroup_key s g' k' ((taken k').symm.trans e)).1
      · exact fit _ k (.inr ((captured g' ne k').symm.trans e))
  · by_cases ne : g' = g
    · subst ne
      rw [self, hstate] at hst
      cases hst
    · rw [other g' ne] at hst hc ⊢
      rw [State.spareBank, other g' ne, State.bank, hb]
      exact spares g' at'' cap hst hc
  · exact (settled g' noted (List.mem_cons_of_mem _ m) k hk).1
  · by_cases ne : g' = g
    · subst ne
      obtain ⟨pre, post, e⟩ := List.append_of_mem m
      obtain ⟨-, free⟩ := commits g' noted (.capture g' :: pre) post (by rw [e]; rfl) (List.mem_cons_self ..)
      rw [taken]
      cases hkey : captureKey (s.captureGroup g') k with
      | none => rfl
      | some key => exact absurd (free k hk) (captureGroup_key s g' k hkey).2
    · exact (captured g' ne k).trans (settled g' noted (List.mem_cons_of_mem _ m) k hk).2
  · rw [home]
    by_cases ne : g' = g
    · subst ne
      rw [self, hcapture] at hc
      cases hc
      exact captureGroup_vacated hk
    · rw [other g' ne] at hc
      exact (captures g' cap hc (List.mem_cons_of_mem _ m)).2 k hk
  · obtain ⟨no, free⟩ := commits g' noted (.capture g :: pre) post (by rw [e]; rfl) (List.mem_cons_of_mem _ m)
    exact ⟨no, fun k hk => by rw [home]; exact free k hk⟩

/-- R100: the homes that a commit event settles hold no image. -/
theorem Fits.settled {noted : List (Fin 16)} (h : Fits s (.committed g noted :: ws) P)
    (hu : SameTable (s.settleHomes g noted) u) (hb : u.banks = s.banks)
    (hg : ∀ g : GroupId, s.groups[g].Stays u.groups[g]) : Fits u ws P := by
  obtain ⟨slots, -, homes⟩ := hu
  have home (x : HomeId) : u.home x = (s.settleHomes g noted).home x := State.home_congr homes x
  refine h.tail.stays hb hg (fun x k e hk => ?_) fun _ x e => ?_
  · rw [State.homeKey_congr homes x fun i => by rw [slots]]
    by_cases hx : x.group = g ∧ x.home ∈ noted
    · obtain ⟨rfl, hn⟩ := hx
      obtain ⟨none, none'⟩ := h.2.2.1 x.group noted (List.mem_cons_self ..) x.home hn
      exact e.elim (fun e => absurd (e.symm.trans none) nofun) fun e => absurd (e.symm.trans none') nofun
    · have same : (s.settleHomes g noted).home x = s.home x := by rw [State.settleHomes_home, if_neg hx]
      unfold State.homeKey at hk ⊢
      rw [same]
      exact hk
  · rw [home, State.settleHomes_slot]
    exact e

theorem State.not_serves_of_event {e : Event} (h : s.event = some e) : ¬ s.servesRequest := by
  rintro ⟨x, item, p, f, request⟩
  unfold State.event at h
  obtain ⟨client, time⟩ := x
  obtain rfl : client = .request p f := request
  rw [show s.item = some ⟨.request p f, time⟩ from item] at h
  cases h

theorem Handled.fits {e : Event} (h : Handled s e u) (item : s.event = some e) (hs : TableSound s)
    (hf : Fits s (e :: ws) P) (idle : ¬ P) : Fits u ws P := by
  have banks : u.banks = s.banks := h.frame.2.2.2.2.2.2.2.1
  obtain move | ⟨g, at', rfl, state, none, rfl⟩ := h.storeMove
  · obtain table | ⟨g, noted, rfl, settled⟩ := h.table
    · exact hf.tail.stays banks move.groups (fun x k _ hk => (table.keys hs x).trans hk) fun _ x => table.unoccupied x
    · exact hf.settled settled banks move.groups
  · refine hf.captured (at' := at') idle rfl rfl rfl ?_ rfl
    exact ⟨rfl, rfl, rfl⟩

/-! ### The work of the Store Engine -/

/-- Images, captures and the events that wait are in agreement. -/
abbrev ImagesFit (s : State) : Prop := Fits s s.waiting s.servesRequest

theorem ImagesFit.engaged (h : ImagesFit s) : ImagesFit s.engaged := by
  unfold ImagesFit
  rw [State.engaged_waiting]
  refine Fits.serving (Fits.eqs h (by simp) (by simp) (by simp) (by simp)) fun serves => ?_
  rw [← State.engaged_waiting]
  exact State.engaged_serves serves

theorem ImagesFit.worked (h : ImagesFit s) (hw : Worked s t) : ImagesFit t := by
  have current (x : HomeId) : t.currentKey x = s.currentKey x :=
    State.currentKey_congr x hw.banks (hw.current x.group).1
  have capture (g : GroupId) (cap) (hc : t.groups[g].capture = some cap) : s.groups[g].capture = some cap := by
    obtain e | ⟨at', -, e⟩ | ⟨-, e⟩ := hw.groups g <;> rw [e] at hc
    · exact hc
    · exact hc
    · cases hc
  have spare : SparesFit t := fun g at' cap hst hc => by
    have state : t.groups[g] = s.groups[g] := by
      obtain e | ⟨at'', -, e⟩ | ⟨-, e⟩ := hw.groups g
      · exact e
      · rw [e] at hst; cases hst
      · rw [e] at hst; cases hst
    rw [State.spareBank, State.bank, hw.banks, state]
    rw [state] at hst hc
    exact h.2.1 g at' cap hst hc
  obtain ⟨-, slots, -, homes⟩ := hw.table
  have kept := h.change slots homes current capture spare
  obtain waiting | ⟨g, waiting, none⟩ := hw.waiting
  · unfold ImagesFit
    rw [waiting]
    exact kept.serving fun serves => waiting ▸ hw.serves serves
  · have joined : Fits t t.waiting s.servesRequest := by
      rw [waiting]
      exact ⟨kept.1, kept.2.1, kept.2.2.join (fun g' e => by cases e; exact none) nofun⟩
    exact joined.serving hw.serves

theorem programmedImage_bytes (s : State) (a : ActiveRewrite) :
    (s.programmedImage a).readBytes 0 297 = imageBytes a.group (s.groups[a.group].wear + 1) a.capture := by
  have := Memory.readBytes_writeBytes Memory.wf_erased
    (imageBytes a.group (s.groups[a.group].wear + 1) a.capture) 0
  rwa [length_imageBytes] at this

theorem setSpare_others (s : State) (g g' : GroupId) (m : Memory) (h : g' ≠ g) :
    (s.setSpare g m).banks[g'] = s.banks[g'] := by
  rw [State.setSpare_banks, vector_set_at, if_neg (Ne.symm h)]

theorem cutOff_others (s : State) (g g' : GroupId) (h : g' ≠ g) : (s.cutOff g).banks[g'] = s.banks[g'] := by
  obtain e | ⟨m, -, e⟩ := s.cutOff_banks g <;> rw [e]
  exact setSpare_others s g g' m h

/-- R125: the switch makes the image of the capture the current one. -/
theorem ImagesFit.switchedAt (h : ImagesFit s) {at' : Attempt} {cap : Vector CapturedHome 16} {m : Memory}
    (state : s.groups[g].state = .rewriting .committing at') (capture : s.groups[g].capture = some cap)
    (hm : m.readBytes 0 297 = (s.spareBank g).readBytes 0 297) : ImagesFit ((s.setSpare g m).switchedAt g cap) := by
  refine ImagesFit.engaged ?_
  set t : State := { s.setSpare g m with
    groups := s.groups.set g s.groups[g].switched
    active := none
    queue := switchedQueue s.groups[g] g s.queue
    events := s.events ++ [.committed g (notedVacated cap)] } with ht
  show ImagesFit t
  obtain ⟨fit, spares, events⟩ := h
  have self : t.groups[g] = s.groups[g].switched := (vector_set_at _ _ _ _).trans (if_pos rfl)
  have other (g' : GroupId) (ne : g' ≠ g) : t.groups[g'] = s.groups[g'] :=
    (vector_set_at _ _ _ _).trans (if_neg (Ne.symm ne))
  have bank : t.bank g (spareOf s.groups[g].current) = m := by
    show (s.setSpare g m).bank g _ = m
    rw [State.setSpare_bank, if_pos ⟨rfl, rfl⟩]
  have image := hm.trans (spares g at' cap state capture)
  have current (k : Fin 16) : t.currentKey ⟨g, k⟩ = s.capturedKey ⟨g, k⟩ := by
    rw [State.currentKey_eq, State.capturedKey_eq, self, capture]
    show bankKey (t.bank g (spareOf s.groups[g].current)) k = captureKey cap k
    rw [bank, image_key image]
  have captured (k : Fin 16) : t.capturedKey ⟨g, k⟩ = none := by
    rw [State.capturedKey_eq, self]
    rfl
  have currents (g' : GroupId) (ne : g' ≠ g) (k : Fin 16) : t.currentKey ⟨g', k⟩ = s.currentKey ⟨g', k⟩ := by
    rw [State.currentKey_eq, State.currentKey_eq, other g' ne]
    have banks : t.banks[g'] = s.banks[g'] := setSpare_others s g g' m ne
    unfold State.bank
    rw [banks]
  have captureds (g' : GroupId) (ne : g' ≠ g) (k : Fin 16) : t.capturedKey ⟨g', k⟩ = s.capturedKey ⟨g', k⟩ :=
    State.capturedKey_congr _ (by rw [other g' ne])
  have waiting : t.waiting = s.waiting ++ [.committed g (notedVacated cap)] := (List.append_assoc ..).symm
  have empty (y : HomeId) (e : s.currentKey y = none ∧ s.capturedKey y = none) :
      t.currentKey y = none ∧ t.capturedKey y = none := by
    obtain ⟨g', k⟩ := y
    by_cases ne : g' = g
    · subst ne; exact ⟨(current k).trans e.2, captured k⟩
    · exact ⟨(currents g' ne k).trans e.1, (captureds g' ne k).trans e.2⟩
  have caps (g' : GroupId) (c) (hc : t.groups[g'].capture = some c) : s.groups[g'].capture = some c := by
    by_cases ne : g' = g
    · subst ne; rw [self] at hc; cases hc
    · rwa [other g' ne] at hc
  refine ⟨fun y k e => ?_, fun g' at'' c hst hc => ?_, ?_⟩
  · show s.homeKey y = some k
    obtain ⟨g', k'⟩ := y
    by_cases ne : g' = g
    · subst ne
      rw [current, captured] at e
      exact fit _ k (.inr (e.resolve_right nofun))
    · rw [currents g' ne, captureds g' ne] at e
      exact fit _ k e
  · by_cases ne : g' = g
    · subst ne
      rw [caps g' c hc] at capture
      rw [self] at hc
      cases hc
    · rw [other g' ne] at hst hc ⊢
      have banks : t.banks[g'] = s.banks[g'] := setSpare_others s g g' m ne
      rw [State.spareBank, other g' ne, State.bank, banks]
      exact spares g' at'' c hst hc
  · rw [waiting]
    refine EventsFit.join (events.mono empty caps fun _ _ e => e) nofun fun g' noted e => ?_
    cases e
    have vacated {k : Fin 16} (hk : k ∈ notedVacated cap) : cap[k] = .vacated := by
      simpa [notedVacated] using hk
    refine ⟨fun k hk => ⟨?_, captured k⟩, fun m => ?_⟩
    · rw [current, State.capturedKey_eq, capture]
      show captureKey cap k = none
      rw [captureKey, vacated hk]
    · obtain ⟨idle, free⟩ := events.2.1 g cap capture m
      exact ⟨idle, fun k hk => free k (vacated hk)⟩

end Sys2Proof.Machine
end

section
/-! PROOFS. Every step keeps every occupied image under the key that its home holds (O12). -/

namespace Sys2Proof.Machine

variable {s t u : State} {g : GroupId} {x : Group} {a : ActiveRewrite} {es : List Event} {P : Prop} {c : Instr}

/-! ### The reports of the array -/

/-- One group record changed, and of the banks at most its spare one, while plain events join the list. -/
theorem ImagesFit.setGroup (h : ImagesFit s) (hs : t.slots = s.slots) (hh : t.homeMap = s.homeMap)
    (hb : CurrentKept s t) (others : ∀ g' : GroupId, g' ≠ g → t.banks[g'] = s.banks[g'])
    (hg : t.groups = s.groups.set g x) (current : x.current = s.groups[g].current)
    (capture : ∀ cap, x.capture = some cap → s.groups[g].capture = some cap)
    (spare : ∀ at' cap, x.state = .rewriting .committing at' → x.capture = some cap →
      (t.bank g (spareOf s.groups[g].current)).readBytes 0 297 = imageBytes g (x.wear + 1) cap)
    (item : t.item = s.item) (events : t.events = s.events ++ es) (plain : ∀ e ∈ es, e.Plain) : ImagesFit t := by
  have waiting : t.waiting = s.waiting ++ es := by
    rw [State.waiting, State.waiting, events, State.event, State.event, item, List.append_assoc]
  have kept := (Fits.setGroup h hs hh hb hg others current capture spare).plain plain
  rw [ImagesFit, waiting]
  refine kept.serving fun serves => .inl ?_
  unfold State.servesRequest at serves ⊢
  rwa [item] at serves

/-- The group record and the banks as they were. -/
theorem ImagesFit.eqs (h : ImagesFit s) (hs : t.slots = s.slots) (hh : t.homeMap = s.homeMap) (hb : t.banks = s.banks)
    (hg : t.groups = s.groups) (item : t.item = s.item) (events : t.events = s.events ++ es)
    (plain : ∀ e ∈ es, e.Plain) : ImagesFit t := by
  have waiting : t.waiting = s.waiting ++ es := by
    rw [State.waiting, State.waiting, events, State.event, State.event, item, List.append_assoc]
  have kept := (Fits.eqs h hs hh hb hg).plain plain
  rw [ImagesFit, waiting]
  refine kept.serving fun serves => .inl ?_
  unfold State.servesRequest at serves ⊢
  rwa [item] at serves

theorem ImagesFit.same (h : ImagesFit s) (hs : t.slots = s.slots) (hh : t.homeMap = s.homeMap)
    (hb : t.banks = s.banks) (hg : t.groups = s.groups) (item : t.item = s.item) (events : t.events = s.events) :
    ImagesFit t :=
  h.eqs (es := []) hs hh hb hg item (by rw [events, List.append_nil]) (by simp)

theorem Reported.imagesFit (hr : Reported s a u) (hq : QueueSound s) (h : ImagesFit s) : ImagesFit u := by
  have act := hr.active
  have nothing : ∀ e ∈ ([] : List Event), e.Plain := by simp
  have spared (m : Memory) : CurrentKept s (s.setSpare a.group m) := .setSpare s a.group m
  have others (m : Memory) (g' : GroupId) (ne : g' ≠ a.group) := setSpare_others s a.group g' m ne
  cases hr with
  | erased phase =>
    exact h.setGroup (g := a.group) (es := []) rfl rfl (spared _) (others _) rfl rfl (fun _ => id) nofun rfl
      (List.append_nil _).symm nothing
  | suspended phase =>
    exact h.setGroup (g := a.group) (es := []) rfl rfl (.of_banks rfl) (fun _ _ => rfl) rfl rfl (fun _ => id) nofun rfl
      (List.append_nil _).symm nothing
  | paused phase =>
    refine ImagesFit.worked ?_ (Worked.startHead (s.suspendActive a))
    exact h.setGroup (g := a.group) (es := []) rfl rfl (.of_banks rfl) (fun _ _ => rfl) rfl rfl (fun _ => id) nofun rfl
      (List.append_nil _).symm nothing
  | programmed phase =>
    obtain ⟨-, -, capture⟩ := State.activeIn_some phase
    refine h.setGroup (g := a.group) (es := []) rfl rfl (spared _) (others _) rfl rfl (fun _ => id)
      (fun at' cap _ hc => ?_) rfl (List.append_nil _).symm nothing
    obtain rfl : cap = a.capture := Option.some.inj (hc.symm.trans capture)
    show ((s.setSpare a.group (s.programmedImage a)).bank a.group _).readBytes 0 297 = _
    rw [State.setSpare_bank, if_pos ⟨rfl, rfl⟩]
    exact programmedImage_bytes s a
  | switched phase =>
    obtain ⟨-, state, capture⟩ := State.activeIn_some phase
    have late := hq.no_pause_of_phase act state nofun
    rw [State.switch_eq]
    refine ImagesFit.worked (h.switchedAt state capture ?_)
      (Worked.startWork (QueueSound.switchedAt (hq.setSpare _) act state late _))
    exact Memory.readBytes_congr fun k hk => Memory.read_writeBytes_below _ _ (by omega)
  | failed ph m phase left =>
    obtain ⟨-, state, -⟩ := State.activeIn_some phase
    unfold State.failsLeaving State.rewriteFails
    split
    · split
      · exact h.setGroup (g := a.group) (es := []) rfl rfl (spared _) (others _) rfl rfl nofun nofun rfl
          (List.append_nil _).symm nothing
      · exact h.setGroup (g := a.group) (es := []) rfl rfl (spared _) (others _) rfl rfl (fun _ => id) nofun rfl
          (List.append_nil _).symm nothing
    · rw [State.fault_eq]
      refine ImagesFit.worked (ImagesFit.engaged ?_) (Worked.startWork (QueueSound.faultedAt
        (s := { s.setSpare a.group (failedBank a.attempt m) with fresh := s.fresh + 1, pauseOrdered := false })
        hq.withdrawPause act state rfl))
      exact h.setGroup (g := a.group) (es := [.faulted a.group]) rfl rfl (spared _) (others _) rfl rfl nofun nofun rfl rfl
        fun e he => by rw [List.mem_singleton.1 he]; exact ⟨nofun, nofun⟩

/-! ### PFW# (R138) -/

theorem ImagesFit.requeued (h : ImagesFit s) (hb : CurrentKept s t) (hs : t.slots = s.slots)
    (hh : t.homeMap = s.homeMap) (others : ∀ g' : GroupId, g' ≠ g → t.banks[g'] = s.banks[g'])
    (hg : t.groups = s.groups.set g s.groups[g].abandoned) (item : t.item = s.item) (events : t.events = s.events) :
    ImagesFit t :=
  h.setGroup (g := g) (es := []) hs hh hb others hg rfl nofun nofun item (by rw [events, List.append_nil]) (by simp)

theorem ImagesFit.abandonSuspended (h : ImagesFit s) : ImagesFit s.abandonSuspended := by
  unfold State.abandonSuspended
  split
  · exact h
  · rename_i g _
    exact h.requeued (g := g) ((CurrentKept.cutOff s g).congr rfl) (by simp) (by simp) (cutOff_others s g)
      (by simp [State.requeueAbandoned, Group.abandoned]) (by simp) (by simp)

theorem ImagesFit.abandonActive (h : ImagesFit s) : ImagesFit s.abandonActive := by
  unfold State.abandonActive
  split
  · exact h
  · rename_i g _
    split
    · exact h.requeued (g := g) (.of_banks rfl) rfl rfl (fun _ _ => rfl) rfl rfl rfl
    · exact h.requeued (g := g) ((CurrentKept.cutOff s g).congr rfl) (by simp) (by simp) (cutOff_others s g)
        (by simp [State.requeueAbandoned, Group.abandoned]) (by simp) (by simp)
    all_goals exact h

/-! ### Time and restore -/

theorem ImagesFit.tickActive (h : ImagesFit s) : ImagesFit s.tickActive := by
  have kept : Fits s.tickActive s.waiting s.servesRequest := Fits.stays h (by simp) (StoreMove.tickActive s).groups
    (fun x k _ hk => (State.homeKey_congr (by simp) x (by simp)).trans hk) fun _ x hx => by
      rw [State.home_congr (show s.tickActive.homeMap = s.homeMap by simp)]; exact hx
  have item : s.tickActive.item = s.item := by simp
  have events : s.tickActive.events = s.events := by simp
  rw [ImagesFit, State.waiting, State.event, State.servesRequest, item, events]
  exact kept

theorem ImagesFit.raiseAll (h : ImagesFit s) (plain : ∀ e ∈ es, e.Plain) (d : List Deadline) :
    ImagesFit (State.raiseAll { s with deadlines := d } es) :=
  ImagesFit.engaged (h.eqs rfl rfl rfl rfl rfl rfl plain)

theorem Deadline.event_plain (d : Deadline) : d.event.Plain := ⟨nofun, nofun⟩

/-- R111, R112: after a restore each home holds the key of its image. -/
theorem Restored.homeKey {v : State} (hv : Restored s 256 v) (h : HomeId) (k : Key) :
    v.homeKey h = some k ↔ ∃ x, s.storedImage h = some (k, x) := by
  cases hx : s.storedImage h with
  | none =>
    rw [State.homeKey_free (hv.free h (.inr hx))]
    simp
  | some e =>
    obtain ⟨k', x⟩ := e
    by_cases hl : ∃ r, s.loads h r
    · obtain ⟨r, hl⟩ := hl
      obtain ⟨i, hi, home⟩ := hv.loaded h r h.place_lt hl
      rw [State.homeKey_occupied home, hi]
      have key : k' = r.key := congrArg Prod.fst (Option.some.inj (hx.symm.trans hl.1))
      simp [key]
    · rw [State.homeKey_vacated (hv.vacated h k' x h.place_lt hx fun r hr => hl ⟨r, hr⟩)]
      simp

end Sys2Proof.Machine
end

section
/-! PROOFS. Every step keeps every occupied image under the key that its home holds (O12). -/

namespace Sys2Proof.Machine

variable {s t u : State} {g : GroupId} {a : ActiveRewrite} {c : Instr} {p : PortId} {f : RequestFrame}

theorem State.waiting_of_request (h : s.request p = some f) : s.waiting = s.events := by
  have served := State.request_iff.1 h
  have event : s.event = none := State.event_none fun e he => by
    have := served.symm.trans he
    cases this
  rw [State.waiting, event]
  rfl

theorem State.serves_of_request (h : s.request p = some f) : s.servesRequest := by
  obtain ⟨x, item, client⟩ := Option.map_eq_some_iff.1 (State.request_iff.1 h)
  exact ⟨x, item, p, f, client⟩

theorem State.waiting_of_event {e : Event} (h : s.event = some e) : s.waiting = e :: s.events := by
  rw [State.waiting, h]
  rfl

/-- Images and events are in agreement after, as they are before where the part is restoring or serving. -/
theorem ImagesSound.step (hs : ImagesSound s) (phase : t.phase = s.phase) (h : ImagesFit s → ImagesFit t) :
    ImagesSound t :=
  imagesSound_iff.2 fun on => h (imagesSound_iff.1 hs (phase ▸ on))

theorem ImagesSound.of_off (off : t.phase = .off ∨ t.phase = .reset) : ImagesSound t :=
  imagesSound_iff.2 fun on => by obtain e | e := off <;> rw [e] at on <;> exact on.elim nofun nofun

theorem ImagesSound.restored (held : HeldSound s) (hp : s.phase = .reset) (v0 v1 v2 v3 : Privilege) :
    ImagesSound ((s.beginRestore.sampleStraps v0 v1 v2 v3).restoreGroups (List.finRange 16)) := by
  have through := held.goesThrough hp v0 v1 v2 v3
  have group (g : GroupId) := State.restoreGroups_at (s.beginRestore.sampleStraps v0 v1 v2 v3) (List.finRange 16) g
  obtain ⟨-, -, -, events, item, -⟩ := held (.inr hp)
  refine imagesSound_iff.2 fun _ => ⟨fun h k e => ?_, fun g at' cap hst => ?_, ?_⟩
  · rw [through.homeKey]
    rw [State.currentKey_eq, State.capturedKey_eq, group, if_pos (List.mem_finRange _)] at e
    obtain e | e := e
    · obtain ⟨which, hc, hk⟩ := Option.bind_eq_some_iff.1 e
      have bank : State.bank _ h.group which = s.bank h.group which := congrArg (fun b => (b[h.group]).get which) through.banks
      rw [bank, bankKey] at hk
      split at hk
      · cases hk
      · have image := State.storedImage_some (s := s) (g := h.group) (which := which) hc h.home
        rw [if_neg ‹_›, Option.some.inj hk] at image
        exact ⟨_, image⟩
    · cases e
  · rw [group, if_pos (List.mem_finRange _)] at hst
    have := (restoredGroup_sound g s.banks[g]).2.1
    rw [show (restoredGroup g s.banks[g]).state = _ from hst] at this
    cases this
  · have waiting : State.waiting ((s.beginRestore.sampleStraps v0 v1 v2 v3).restoreGroups (List.finRange 16)) = [] := by
      rw [State.waiting, State.event]
      simp [item, events]
    rw [waiting]
    exact .nil _ _

theorem Ran.imagesSound (h : Ran s c t) (base : BaseSound s) (hq : QueueSound s) (hs : ImagesSound s) :
    ImagesSound t := by
  have table : TableSound s := base.2
  cases h with
  | idle => exact hs
  | request c p f u row item served =>
    have fit := imagesSound_iff.1 hs (base.1.on_of_item (State.item_of_request item))
    rw [State.waiting_of_request item] at fit
    have serving := fit.serving (Q := True) fun _ => .inl (State.serves_of_request item)
    exact imagesSound_iff.2 fun _ => Fits.finish (served.fits table serving) served.eventsGrow
  | event c e u row item handled =>
    have fit := imagesSound_iff.1 hs (base.1.on_of_item (State.item_of_event item))
    rw [State.waiting_of_event item] at fit
    have fits := handled.fits item table fit (State.not_serves_of_event item)
    exact imagesSound_iff.2 fun _ => Fits.finish fits handled.eventsGrow
  | reset => exact .of_off (.inr rfl)
  | powerLost => exact .of_off (.inl rfl)
  | restored v0 v1 v2 v3 hp => exact .restored base.1 hp v0 v1 v2 v3
  | restoreEnded restoring =>
    have fit : ImagesFit s := imagesSound_iff.1 hs (.inl restoring)
    exact imagesSound_iff.2 fun _ => ImagesFit.engaged (fit.same (by simp) (by simp) (by simp) (by simp) (by simp) (by simp))
  | portReset p =>
    refine hs.step (by simp) fun fit => ?_
    have emptied : ImagesFit (s.modifyPort p prstPort) := fit.same rfl rfl rfl rfl rfl rfl
    unfold State.raiseEviction
    split
    · split
      · exact emptied
      · exact emptied.raiseAll (es := [.eviction p]) (by simp [Event.Plain]) s.deadlines
    · exact emptied
  | pfwServing =>
    refine hs.step (by simp) fun fit => ?_
    have asserted : ImagesFit { s with pfw := true } := fit
    exact asserted.abandonSuspended.abandonActive.same (by simp) (by simp) (by simp) (by simp) (by simp) (by simp)
  | ticked =>
    refine hs.step (by simp) fun fit => ?_
    have fell : ImagesFit s.fallAllDue := fit.raiseAll (fun e he => by
      obtain ⟨d, -, rfl⟩ := List.mem_map.1 he
      exact d.event_plain) _
    exact fell.tickActive.same rfl rfl rfl rfl rfl rfl
  | fellDue =>
    refine hs.step (by simp) fun fit => ?_
    unfold State.fallDue
    split
    · exact fit
    · split
      · exact fit.raiseAll (es := [_]) (fun e he => by rw [List.mem_singleton.1 he]; exact Deadline.event_plain _) _
      · exact fit
  | submitted p bytes =>
    refine hs.step (by simp) fun fit => ImagesFit.engaged ?_
    exact fit.same (by simp) (by simp) (by simp) (by simp) (by simp) (by simp)
  | fetchReleased p n =>
    exact hs.step (by simp) fun fit => ImagesFit.engaged (fit.same rfl rfl rfl rfl rfl rfl)
  | started => exact hs.step (by simp) fun fit => fit.worked (.startWork hq)
  | report c a u row reported => exact hs.step reported.frame.2.1 fun fit => reported.imagesFit hq fit
  | _ => exact hs.step (by simp) fun fit => fit.same rfl rfl rfl rfl rfl rfl

/-- Settles O12: each kind of command keeps the images, the captures and the events that wait in agreement. -/
theorem stepKeepsImagesSound : Obligations.StepKeepsImagesSound := fun _ _ hs h =>
  (step_keeps (P := fun s => BaseSound s ∧ StoreSound s ∧ ImagesSound s) (fun _ _ hs => hs)
    (fun _ _ _ ran ⟨base, store, images⟩ =>
      ⟨ran.baseSound base, ran.storeSound base.1 store, ran.imagesSound base store.1 images⟩) hs h).2.2

end Sys2Proof.Machine
end

section
/-! PROOFS. Every step keeps one home for each key, over the homes and over the images that a restore would load from
(O13). -/

namespace Sys2Proof.Machine

variable {s t u v : State} {g : GroupId} {x : Group} {a : ActiveRewrite} {c : Instr} {p : PortId} {f : RequestFrame}
  {i : Slot} {m : Memory} {k : Fin 16}

/-! ### The choice of the current bank (R106) -/

theorem chooseCurrent_none {ca cb : BankCondition} {wa wb : Word} :
    chooseCurrent ca cb wa wb = none ↔ ca ≠ .valid ∧ cb ≠ .valid := by
  cases ca <;> cases cb <;> simp [chooseCurrent]
  split <;> nofun

theorem chooseCurrent_a {ca cb : BankCondition} {wa wb : Word} :
    chooseCurrent ca cb wa wb = some .a ↔ ca = .valid ∧ (cb = .valid → ¬ wa < wb) := by
  cases ca <;> cases cb <;> simp [chooseCurrent]

theorem chooseCurrent_b {ca cb : BankCondition} {wa wb : Word} :
    chooseCurrent ca cb wa wb = some .b ↔ cb = .valid ∧ (ca = .valid → wa < wb) := by
  cases ca <;> cases cb <;> simp [chooseCurrent]

/-- The other bank of a group. -/
def BankId.other : BankId → BankId
  | .a => .b
  | .b => .a

theorem spareOf_some (which : BankId) : spareOf (some which) = which.other := by cases which <;> rfl

/-- A VALID bank whose wear count is above that of the other, where that is VALID, is chosen. -/
theorem State.chosenBank_of_valid {which : BankId} (valid : judgeBank g (s.bank g which) = .valid)
    (more : judgeBank g (s.bank g which.other) = .valid → bankWear (s.bank g which.other) < bankWear (s.bank g which)) :
    s.chosenBank g = some which := by
  cases which with
  | a => exact chooseCurrent_a.2 ⟨valid, fun hv => BitVec.not_lt.2 (BitVec.le_of_lt (more hv))⟩
  | b => exact chooseCurrent_b.2 ⟨valid, more⟩

theorem State.chosenBank_none : s.chosenBank g = none ↔ ∀ which, judgeBank g (s.bank g which) ≠ .valid := by
  refine chooseCurrent_none.trans ⟨fun h which => ?_, fun h => ⟨h .a, h .b⟩⟩
  cases which
  · exact h.1
  · exact h.2

theorem State.chosenBank_valid {which : BankId} (h : s.chosenBank g = some which) :
    judgeBank g (s.bank g which) = .valid := by
  cases which
  · exact (chooseCurrent_a.1 h).1
  · exact (chooseCurrent_b.1 h).1

theorem State.chosenBank_congr (hb : t.banks[g] = s.banks[g]) : t.chosenBank g = s.chosenBank g := by
  unfold State.chosenBank State.bank
  rw [hb]

/-- Each group's current bank and wear count are those that a restore would choose. -/
def ChoiceFits (s : State) : Prop :=
  ∀ g : GroupId, s.groups[g].current = s.chosenBank g
    ∧ ∀ which : BankId, s.groups[g].current = some which → bankWear (s.bank g which) = s.groups[g].wear

/-- A bank that is not VALID in the place of the spare one leaves the choice. -/
theorem chosenBank_of_spare (hc : s.groups[g].current = s.chosenBank g)
    (hb : ∀ which, which ≠ spareOf s.groups[g].current → t.bank g which = s.bank g which)
    (hm : judgeBank g (t.bank g (spareOf s.groups[g].current)) ≠ .valid) : t.chosenBank g = s.chosenBank g := by
  cases hcur : s.groups[g].current with
  | none =>
    rw [hcur] at hc hb hm
    rw [← hc, State.chosenBank_none]
    have before := State.chosenBank_none.1 hc.symm
    intro which
    by_cases e : which = spareOf none
    · rw [e]; exact hm
    · rw [hb which e]; exact before which
  | some which =>
    rw [hcur] at hc hb hm
    have kept := hb which (Ne.symm spareOf_ne)
    rw [← hc]
    refine State.chosenBank_of_valid (by rw [kept]; exact State.chosenBank_valid hc.symm) fun valid => ?_
    rw [spareOf_some] at hm
    exact absurd valid hm

theorem ChoiceFits.one (h : ChoiceFits s) (hc : t.groups[g].current = s.groups[g].current)
    (hw : t.groups[g].wear = s.groups[g].wear) (hb : t.banks[g] = s.banks[g]
      ∨ ((∀ which, which ≠ spareOf s.groups[g].current → t.bank g which = s.bank g which)
        ∧ judgeBank g (t.bank g (spareOf s.groups[g].current)) ≠ .valid)) :
    t.groups[g].current = t.chosenBank g
      ∧ ∀ which : BankId, t.groups[g].current = some which → bankWear (t.bank g which) = t.groups[g].wear := by
  obtain ⟨current, wear⟩ := h g
  rw [hc, hw]
  obtain hb | ⟨kept, not_valid⟩ := hb
  · rw [State.chosenBank_congr hb]
    refine ⟨current, fun which e => ?_⟩
    rw [State.bank, hb]
    exact wear which e
  · refine ⟨current.trans (chosenBank_of_spare current kept not_valid).symm, fun which e => ?_⟩
    rw [kept which (by rw [e]; exact Ne.symm spareOf_ne)]
    exact wear which e

/-- The banks as they were, and every group record with its current bank and wear count. -/
theorem ChoiceFits.congr (h : ChoiceFits s) (hb : t.banks = s.banks)
    (hg : ∀ g : GroupId, t.groups[g].current = s.groups[g].current ∧ t.groups[g].wear = s.groups[g].wear) :
    ChoiceFits t := fun g => h.one (hg g).1 (hg g).2 (.inl (by rw [hb]))

/-- One group record changed, and its spare bank to one that is not VALID. -/
theorem ChoiceFits.setSpare (h : ChoiceFits s) (hb : t.banks = (s.setSpare g m).banks)
    (hm : judgeBank g m ≠ .valid) (hg : t.groups = s.groups.set g x)
    (hx : x.current = s.groups[g].current ∧ x.wear = s.groups[g].wear) : ChoiceFits t := fun g' => by
  have bank (g' : GroupId) (which : BankId) : t.bank g' which = (s.setSpare g m).bank g' which := by
    unfold State.bank
    rw [hb]
  by_cases e : g' = g
  · subst e
    have self : t.groups[g'] = x := by rw [hg, vector_set_at, if_pos rfl]
    refine h.one (by rw [self, hx.1]) (by rw [self, hx.2]) (.inr ⟨fun which ne => ?_, ?_⟩)
    · rw [bank, State.setSpare_bank, if_neg fun both => ne both.2]
    · rw [bank, State.setSpare_bank, if_pos ⟨rfl, rfl⟩]
      exact hm
  · have other : t.groups[g'] = s.groups[g'] := by rw [hg, vector_set_at, if_neg (Ne.symm e)]
    exact h.one (by rw [other]) (by rw [other]) (.inl (by rw [hb, setSpare_others s g g' m e]))

theorem ChoiceFits.setGroup (h : ChoiceFits s) (hb : t.banks = s.banks) (hg : t.groups = s.groups.set g x)
    (hx : x.current = s.groups[g].current ∧ x.wear = s.groups[g].wear) : ChoiceFits t :=
  h.congr hb fun g' => by
    rw [hg, vector_set_at]
    split
    · subst g'; exact hx
    · exact ⟨rfl, rfl⟩

theorem ChoiceFits.worked (h : ChoiceFits s) (hw : Worked s t) : ChoiceFits t := h.congr hw.banks hw.current

theorem ChoiceFits.eqs (h : ChoiceFits s) (hb : t.banks = s.banks) (hg : t.groups = s.groups) : ChoiceFits t :=
  h.congr hb fun g => by rw [hg]; exact ⟨rfl, rfl⟩

theorem ChoiceFits.engaged (h : ChoiceFits s) : ChoiceFits s.engaged := h.eqs (by simp) (by simp)

/-! ### The switch (R125) -/

theorem wear_lt {w : Word} (h : w.toNat < 200000) : w < w + 1 := by
  rw [BitVec.lt_def, BitVec.toNat_add]
  simp
  omega

/-- A VALID spare bank whose wear count is one more is the one that a restore would choose. -/
theorem chosenBank_of_more (h : ChoiceFits s) (few : s.groups[g].wear.toNat < 200000) (valid : judgeBank g m = .valid)
    (wear : bankWear m = s.groups[g].wear + 1) :
    (s.setSpare g m).chosenBank g = some (spareOf s.groups[g].current) := by
  have bank (which : BankId) : (s.setSpare g m).bank g which =
      if which = spareOf s.groups[g].current then m else s.bank g which := by
    rw [State.setSpare_bank]
    exact if_congr (and_iff_right rfl) rfl rfl
  have spare := bank (spareOf s.groups[g].current)
  rw [if_pos rfl] at spare
  refine State.chosenBank_of_valid (by rw [spare]; exact valid) fun other => ?_
  obtain ⟨chosen, count⟩ := h g
  cases hc : s.groups[g].current with
  | none =>
    rw [hc] at chosen other bank
    rw [bank, if_neg (by decide)] at other
    exact absurd other (State.chosenBank_none.1 chosen.symm _)
  | some which =>
    have back : (spareOf (some which)).other = which := by cases which <;> rfl
    rw [hc] at spare bank
    rw [spare, back, bank, if_neg (Ne.symm spareOf_ne), wear, count which hc]
    exact wear_lt few

/-- R125: the completed spare bank is the current one after the switch. -/
theorem ChoiceFits.switchedAt (h : ChoiceFits s) {cap : Vector CapturedHome 16}
    (few : s.groups[g].wear.toNat < 200000) (valid : judgeBank g m = .valid)
    (wear : bankWear m = s.groups[g].wear + 1) : ChoiceFits ((s.setSpare g m).switchedAt g cap) := by
  refine ChoiceFits.engaged fun g' => ?_
  set t : State := { s.setSpare g m with
    groups := s.groups.set g s.groups[g].switched
    active := none
    queue := switchedQueue s.groups[g] g s.queue
    events := s.events ++ [.committed g (notedVacated cap)] } with ht
  show t.groups[g'].current = t.chosenBank g' ∧ ∀ which, t.groups[g'].current = some which →
    bankWear (t.bank g' which) = t.groups[g'].wear
  by_cases e : g' = g
  · subst e
    have self : t.groups[g'] = s.groups[g'].switched := (vector_set_at _ _ _ _).trans (if_pos rfl)
    have current : t.groups[g'].current = some (spareOf s.groups[g'].current) := by rw [self]; rfl
    refine ⟨current.trans (chosenBank_of_more h few valid wear).symm, fun which hw => ?_⟩
    obtain rfl := Option.some.inj (current.symm.trans hw)
    rw [self]
    show bankWear ((s.setSpare g' m).bank g' _) = s.groups[g'].wear + 1
    rw [State.setSpare_bank, if_pos ⟨rfl, rfl⟩, wear]
  · have other : t.groups[g'] = s.groups[g'] := (vector_set_at _ _ _ _).trans (if_neg (Ne.symm e))
    exact h.one (by rw [other]) (by rw [other]) (.inl (setSpare_others s g g' m e))

end Sys2Proof.Machine
end

section
/-! PROOFS. Every step keeps one home for each key, over the homes and over the images that a restore would load from
(O13). -/

namespace Sys2Proof.Machine

variable {s t u v : State} {g : GroupId} {x : Group} {a : ActiveRewrite} {c : Instr} {p : PortId} {f : RequestFrame}
  {i : Slot} {m : Memory} {k : Fin 16}

/-! ### The reports of the array -/

theorem erased_not_valid (g : GroupId) : judgeBank g Memory.erased ≠ .valid :=
  judgeBank_ne_valid_iff.2 (not_valid_of_last rfl)

theorem programmedImage_not_valid (s : State) (a : ActiveRewrite) :
    judgeBank a.group (s.programmedImage a) ≠ .valid := by
  refine judgeBank_ne_valid_iff.2 (not_valid_of_last ?_)
  exact (Memory.read_writeBytes_above _ _ (by rw [length_imageBytes]; decide)).trans rfl

/-- R124: the bank of a completed commit mark. -/
def State.markedBank (s : State) (g : GroupId) : Memory := (s.spareBank g).writeBytes 297 commitMark

theorem markedBank_image (s : State) (g : GroupId) :
    (s.markedBank g).readBytes 0 297 = (s.spareBank g).readBytes 0 297 :=
  Memory.readBytes_congr fun k hk => Memory.read_writeBytes_below _ _ (by omega)

theorem markedBank_mark (h : (s.spareBank g).wf = true) : (s.markedBank g).readBytes 297 4 = commitMark :=
  Memory.readBytes_writeBytes h commitMark 297

/-- R125: before its switch a rewrite's group is not WORN. -/
theorem QueueSound.wear_lt (h : QueueSound s) {ph : RewritePhase} {at' : Attempt}
    (state : s.groups[g].state = .rewriting ph at') : s.groups[g].wear.toNat < 200000 := by
  obtain ⟨-, -, -, worn⟩ := h.2.2.2.2.2 g
  rw [state] at worn
  by_contra many
  exact absurd (worn.2 (by omega)) nofun

theorem Reported.choiceFits (hr : Reported s a u) (hq : QueueSound s) (hb : BanksSound s) (hi : ImagesFit s)
    (h : ChoiceFits s) : ChoiceFits u := by
  have act := hr.active
  cases hr with
  | erased phase => exact h.setSpare (g := a.group) rfl (erased_not_valid _) rfl ⟨rfl, rfl⟩
  | suspended phase => exact h.setGroup (g := a.group) rfl rfl ⟨rfl, rfl⟩
  | paused phase =>
    refine ChoiceFits.worked ?_ (Worked.startHead (s.suspendActive a))
    exact h.setGroup (g := a.group) rfl rfl ⟨rfl, rfl⟩
  | programmed phase => exact h.setSpare (g := a.group) rfl (programmedImage_not_valid s a) rfl ⟨rfl, rfl⟩
  | switched phase =>
    obtain ⟨-, state, capture⟩ := State.activeIn_some phase
    have late := hq.no_pause_of_phase act state nofun
    have image := (markedBank_image s a.group).trans (hi.2.1 a.group _ _ state capture)
    rw [State.switch_eq]
    refine ChoiceFits.worked (h.switchedAt (hq.wear_lt state) ?_ ?_)
      (Worked.startWork (QueueSound.switchedAt (hq.setSpare _) act state late _))
    · exact image_valid image (markedBank_mark (hb.bank _ _))
    · exact (image_fields image).2.1
  | failed ph m phase left =>
    obtain ⟨-, state, -⟩ := State.activeIn_some phase
    obtain ⟨wf, invalid⟩ := FailureLeaves.not_valid left (hb.bank _ _)
    have not_valid := failedBank_not_valid wf invalid a.attempt
    unfold State.failsLeaving State.rewriteFails
    split
    · split
      · exact h.setSpare (g := a.group) rfl not_valid rfl ⟨rfl, rfl⟩
      · exact h.setSpare (g := a.group) rfl not_valid rfl ⟨rfl, rfl⟩
    · rw [State.fault_eq]
      refine ChoiceFits.worked (ChoiceFits.engaged ?_) (Worked.startWork (QueueSound.faultedAt
        (s := { s.setSpare a.group (failedBank a.attempt m) with fresh := s.fresh + 1, pauseOrdered := false })
        hq.withdrawPause act state rfl))
      exact h.setSpare (g := a.group) rfl not_valid rfl ⟨rfl, rfl⟩

/-! ### PFW# (R138) -/

theorem cutOff_erase {at' : Attempt} (h : s.groups[g].state = .rewriting .erasing at'
      ∨ s.groups[g].state = .rewriting .suspended at') :
    (s.cutOff g).banks = (s.setSpare g (leftNotValid g s.fresh)).banks := by
  unfold State.cutOff
  obtain h | h := h <;> rw [h]

theorem ChoiceFits.requeued (h : ChoiceFits s) {at' : Attempt} (state : s.groups[g].state = .rewriting .erasing at'
      ∨ s.groups[g].state = .rewriting .suspended at') (hb : t.banks = (s.cutOff g).banks)
    (hg : t.groups = s.groups.set g s.groups[g].abandoned) : ChoiceFits t :=
  h.setSpare (hb.trans (cutOff_erase state)) (judgeBank_ne_valid_iff.2 (leftNotValid_not_valid _ _)) hg ⟨rfl, rfl⟩

theorem ChoiceFits.abandonSuspended (h : ChoiceFits s) (hq : QueueSound s) : ChoiceFits s.abandonSuspended := by
  unfold State.abandonSuspended
  split
  · exact h
  · rename_i g hs
    obtain ⟨at', state⟩ := hq.suspended_state hs
    exact h.requeued (g := g) (.inr state) rfl (by simp [State.requeueAbandoned, Group.abandoned])

theorem ChoiceFits.abandonActive (h : ChoiceFits s) : ChoiceFits s.abandonActive := by
  unfold State.abandonActive
  split
  · exact h
  · rename_i g _
    split
    · exact h.setGroup (g := g) rfl rfl ⟨rfl, rfl⟩
    · exact h.requeued (g := g) (.inl ‹_›) rfl (by simp [State.requeueAbandoned, Group.abandoned])
    all_goals exact h

/-! ### Reset and loss of power (R107, R140) -/

/-- The images of a group that a restore would load from have the keys that the group's homes hold in `s`. -/
def StoredFit (s : State) (g : GroupId) (v : State) : Prop :=
  ∀ (k : Fin 16) (key : Key) (x : Option Record), v.storedImage ⟨g, k⟩ = some (key, x) → s.homeKey ⟨g, k⟩ = some key

theorem State.storedImage_bank (hb : t.banks[g] = s.banks[g]) (k : Fin 16) :
    t.storedImage ⟨g, k⟩ = s.storedImage ⟨g, k⟩ := by
  unfold State.storedImage State.bank
  dsimp only
  rw [hb]

theorem StoredFit.congr (h : StoredFit s g v) (hb : t.banks[g] = v.banks[g]) : StoredFit s g t := fun k key x e =>
  h k key x ((State.storedImage_bank hb k).symm.trans e)

/-- The image that is loaded from a bank that is chosen. -/
theorem stored_bankKey {which : BankId} {key : Key} {x : Option Record} (hc : v.chosenBank g = some which)
    (hx : v.storedImage ⟨g, k⟩ = some (key, x)) : bankKey (v.bank g which) k = some key := by
  rw [State.storedImage_some hc] at hx
  unfold bankKey
  split at hx
  · cases hx
  · rw [if_neg ‹_›]
    exact congrArg some (congrArg Prod.fst (Option.some.inj hx))

/-- Where the choice and the current bank's bytes are as they were, the images are the current ones. -/
theorem storedFit_of_kept (hk : KeysFit s) (hc : ChoiceFits s) (chosen : v.chosenBank g = s.chosenBank g)
    (hb : ∀ which, s.groups[g].current = some which → v.bank g which = s.bank g which) : StoredFit s g v := by
  intro k key x hx
  cases hw : v.chosenBank g with
  | none => rw [State.storedImage_none hw] at hx; cases hx
  | some which =>
    have current : s.groups[g].current = some which := (hc g).1.trans (chosen.symm.trans hw)
    refine hk ⟨g, k⟩ key (.inl ?_)
    rw [State.currentKey_eq, current]
    show bankKey (s.bank g which) k = some key
    rw [← hb which current]
    exact stored_bankKey hw hx

theorem storedFit_self (hk : KeysFit s) (hc : ChoiceFits s) (g : GroupId) : StoredFit s g s :=
  storedFit_of_kept hk hc rfl fun _ _ => rfl

theorem setSpare_at (s : State) (g : GroupId) (m : Memory) :
    (s.setSpare g m).banks[g] = s.banks[g].put (spareOf s.groups[g].current) m := by
  rw [State.setSpare_banks, vector_set_at, if_pos rfl]

/-- A spare bank that is not VALID gives no image. -/
theorem storedFit_spared (hk : KeysFit s) (hc : ChoiceFits s) (hg : v.groups[g].current = s.groups[g].current)
    (hb : v.banks[g] = s.banks[g]) (hm : judgeBank g m ≠ .valid) : StoredFit s g (v.setSpare g m) := by
  have here : StoredFit s g (s.setSpare g m) := by
    refine storedFit_of_kept hk hc (chosenBank_of_spare (hc g).1 (fun which ne => ?_) ?_) fun which e => ?_
    · rw [State.setSpare_bank, if_neg fun both => ne both.2]
    · rw [State.setSpare_bank, if_pos ⟨rfl, rfl⟩]
      exact hm
    · rw [State.setSpare_bank, if_neg fun both => spareOf_ne ((congrArg spareOf e).symm.trans both.2.symm)]
  exact here.congr (by rw [setSpare_at, setSpare_at, hg, hb])

/-- A spare bank that is cut off holds no VALID image, or that of its capture. -/
theorem storedFit_cutOff (hi : ImagesFit s) (hc : ChoiceFits s) (hq : QueueSound s) (g : GroupId) :
    StoredFit s g (s.cutOff g) := by
  have spared {m : Memory} (hm : judgeBank g m ≠ .valid) : StoredFit s g (s.setSpare g m) :=
    storedFit_spared hi.1 hc rfl rfl hm
  unfold State.cutOff
  split
  · exact (spared (judgeBank_ne_valid_iff.2 (leftNotValid_not_valid _ _))).congr rfl
  · exact (spared (judgeBank_ne_valid_iff.2 (leftNotValid_not_valid _ _))).congr rfl
  · exact (spared (judgeBank_ne_valid_iff.2 (leftProgrammed_not_valid _ _))).congr rfl
  · rename_i at' state
    by_cases hm : judgeBank g (markCutOff (s.spareBank g) s.fresh) = .valid
    · have kept : s.groups[g].capture.isSome := (hq.2.2.2.2.2 g).2.1.2 (by rw [state]; exact ⟨nofun, nofun⟩)
      obtain ⟨cap, capture⟩ := Option.isSome_iff_exists.1 kept
      have image := (markCutOff_image (s.spareBank g) s.fresh).trans (hi.2.1 g at' cap state capture)
      refine StoredFit.congr (v := s.setSpare g (markCutOff (s.spareBank g) s.fresh)) (fun k key x hx => ?_) rfl
      have chosen := chosenBank_of_more hc (hq.wear_lt state) hm (image_fields image).2.1
      have key' := stored_bankKey chosen hx
      rw [State.setSpare_bank, if_pos ⟨rfl, rfl⟩, image_key image] at key'
      exact hi.1 ⟨g, k⟩ key (.inr (by rw [State.capturedKey_eq, capture]; exact key'))
    · exact (spared hm).congr rfl
  all_goals exact storedFit_self hi.1 hc g

theorem storedFit_cutOffRewrites (hi : ImagesFit s) (hc : ChoiceFits s) (hq : QueueSound s) (g : GroupId) :
    StoredFit s g s.cutOffRewrites := by
  have fits := storedFit_self hi.1 hc
  have one (o : Option GroupId) : StoredFit s g (s.cutOffRewrite o) := by
    cases o with
    | none => exact fits g
    | some g' =>
      by_cases e : g = g'
      · subst e; exact storedFit_cutOff hi hc hq g
      · exact (fits g).congr (cutOff_others s g' g e)
  unfold State.cutOffRewrites
  cases hs : s.suspended with
  | none => exact one s.active
  | some g' =>
    by_cases e : g = g'
    · subst e
      have idle : s.active ≠ some g := fun act => hq.not_suspended act hs
      obtain ⟨at', state⟩ := hq.suspended_state hs
      have groups : (s.cutOffRewrite s.active).groups = s.groups := by simp
      have banks : (s.cutOffRewrite s.active).banks[g] = s.banks[g] := by
        cases ha : s.active with
        | none => rfl
        | some g' => exact cutOff_others s g' g fun e => idle (ha.trans (congrArg some e.symm))
      have state' : (s.cutOffRewrite s.active).groups[g].state = .rewriting .suspended at' := by rw [groups, state]
      exact (storedFit_spared (v := s.cutOffRewrite s.active) hi.1 hc (by rw [groups]) banks
        (judgeBank_ne_valid_iff.2 (leftNotValid_not_valid _ _))).congr (congrArg (·[g]) (cutOff_erase (.inr state')))
    · exact (one s.active).congr (cutOff_others _ g' g e)

/-! ### The homes (R11, R101) -/

/-- No two homes hold one key. -/
def HomesApart (s : State) : Prop :=
  ∀ (h h' : HomeId) (k : Key), s.homeKey h = some k → s.homeKey h' = some k → h = h'

theorem HomesApart.of_keys (h : HomesApart s) (keys : ∀ x k, t.homeKey x = some k → s.homeKey x = some k) :
    HomesApart t := fun x y k hx hy => h x y k (keys x k hx) (keys y k hy)

theorem HomesApart.eqs (h : HomesApart s) (hs : t.slots = s.slots) (hh : t.homeMap = s.homeMap) : HomesApart t :=
  h.of_keys fun x k e => (State.homeKey_congr hh x fun i => by rw [hs]).symm.trans e

/-- R11: a VACATED home of the key is taken up before a FREE one. -/
theorem chooseHome_vacated {k : Key} {h h' : HomeId} (hc : s.chooseHome k = some h) (hv : s.home h' = .vacated k) :
    s.home h = .vacated k := by
  unfold State.chooseHome at hc
  cases found : s.vacatedHomeOf k with
  | none =>
    have := List.find?_eq_none.1 found h' (mem_allHomes h')
    exact absurd hv (by simpa using this)
  | some x =>
    rw [found] at hc
    obtain rfl := Option.some.inj hc
    simpa using List.find?_some found

theorem HomesApart.created (h : HomesApart s) (hs : TableSound s) {g : Guard} {o : Option HomeId}
    (absent : s.lookup f.key = none) (free : s.freeSlot = some i) (home : ∀ x ∈ o, s.chooseHome f.key = some x) :
    HomesApart (createIn p f s i g o) := by
  have keys := created_homeKeys (f := f) hs p g o free
  have alone (x y : HomeId) (hx : o = some x) (hy : s.homeKey y = some f.key) : x = y := by
    have choice := home x hx
    cases e : s.home y with
    | free => rw [State.homeKey_free e] at hy; cases hy
    | occupied j =>
      rw [State.homeKey_occupied e] at hy
      obtain ⟨r, hr, hk⟩ := Option.map_eq_some_iff.1 hy
      have found := hs.1.lookup_eq hr
      rw [hk, absent] at found
      cases found
    | vacated k =>
      obtain rfl : k = f.key := Option.some.inj ((State.homeKey_vacated e).symm.trans hy)
      exact h x y f.key (State.homeKey_vacated (chooseHome_vacated choice e)) hy
  intro x y k hx hy
  rw [keys] at hx hy
  split at hx <;> split at hy
  · rename_i ox oy
    exact Option.some.inj (ox.symm.trans oy)
  · rename_i ox _
    obtain rfl := Option.some.inj hx
    exact alone x y ox hy
  · rename_i _ oy
    obtain rfl := Option.some.inj hy
    exact (alone y x oy hx).symm
  · exact h x y k hx hy

theorem Served.homesApart (hr : Served p f s u) (hs : TableSound s) (h : HomesApart s) : HomesApart u := by
  obtain move | ⟨i, g, o, -, absent, free, home, rfl⟩ := hr.homesMove
  · exact h.of_keys fun x k e => (move.keys hs x).symm.trans e
  · exact h.created hs absent free home

theorem Handled.homesApart {e : Event} (hr : Handled s e u) (hs : TableSound s) (h : HomesApart s) : HomesApart u := by
  obtain move | ⟨g, noted, -, slots, -, homes⟩ := hr.table
  · exact h.of_keys fun x k e => (move.keys hs x).symm.trans e
  · refine h.of_keys fun x k e => ?_
    rw [State.homeKey_congr homes x fun i => by rw [slots]] at e
    have home := s.settleHomes_home g noted x
    cases hx : s.home x with
    | free =>
      have free : (s.settleHomes g noted).home x = .free := home.trans (by rw [hx]; exact ite_self _)
      rw [State.homeKey_free free] at e
      cases e
    | occupied j =>
      have same : (s.settleHomes g noted).home x = .occupied j := home.trans (by rw [hx]; exact ite_self _)
      rw [State.homeKey_occupied same] at e
      rw [State.homeKey_occupied hx]
      exact e
    | vacated k' =>
      rw [hx] at home
      split at home
      · rw [State.homeKey_free home] at e
        cases e
      · rw [State.homeKey_vacated home] at e
        rw [State.homeKey_vacated hx, e]

/-! ### Every command -/

theorem keysApart_iff : KeysApart s ↔
    (s.phase = .restoring ∨ s.phase = .running → HomesApart s
      ∧ (∀ (h h' : HomeId) (k : Key), s.currentKey h = some k → s.currentKey h' = some k → h = h') ∧ ChoiceFits s)
    ∧ (s.phase = .off ∨ s.phase = .reset →
      ∀ (h h' : HomeId) (k : Key) (x x' : Option Record),
        s.storedImage h = some (k, x) → s.storedImage h' = some (k, x') → h = h') := Iff.rfl

/-- While serving or restoring, the images of current banks are apart as the homes are. -/
theorem KeysApart.of_on (on : t.phase = .restoring ∨ t.phase = .running) (hi : ImagesSound t) (homes : HomesApart t)
    (choice : ChoiceFits t) : KeysApart t := by
  have keys := ((imagesSound_iff.1 hi) on).1
  refine keysApart_iff.2 ⟨fun _ => ⟨homes, fun h h' k e e' => homes h h' k (keys h k (.inl e)) (keys h' k (.inl e')),
    choice⟩, fun off => ?_⟩
  obtain e | e := on <;> rw [e] at off <;> exact off.elim nofun nofun

theorem KeysApart.of_off (off : t.phase = .off ∨ t.phase = .reset) (stored : ∀ (h h' : HomeId) (k : Key)
      (x x' : Option Record), t.storedImage h = some (k, x) → t.storedImage h' = some (k, x') → h = h') :
    KeysApart t := by
  refine keysApart_iff.2 ⟨fun on => ?_, fun _ => stored⟩
  obtain e | e := on <;> rw [e] at off <;> exact off.elim nofun nofun

/-- The homes' keys and the choice of the banks after are as before, wherever the part restores or serves. -/
theorem KeysApart.step (hs : KeysApart s) (hi : ImagesSound t) (phase : t.phase = s.phase)
    (banks : s.phase = .off ∨ s.phase = .reset → t.banks = s.banks)
    (homes : s.phase = .restoring ∨ s.phase = .running → HomesApart s → HomesApart t)
    (choice : s.phase = .restoring ∨ s.phase = .running → ChoiceFits s → ChoiceFits t) : KeysApart t := by
  obtain ⟨on, off⟩ := keysApart_iff.1 hs
  obtain held | serving := off_or_on s
  · refine .of_off (phase ▸ held) fun h h' k x x' e e' => off held h h' k x x' ?_ ?_
    · rwa [State.storedImage_congr (banks held)] at e
    · rwa [State.storedImage_congr (banks held)] at e'
  · obtain ⟨apart, -, fits⟩ := on serving
    exact .of_on (phase ▸ serving) hi (homes serving apart) (choice serving fits)

end Sys2Proof.Machine
end

section
/-! PROOFS. Every step keeps one home for each key, over the homes and over the images that a restore would load from
(O13). -/

namespace Sys2Proof.Machine

variable {s t u : State} {g : GroupId} {a : ActiveRewrite} {c : Instr} {p : PortId} {f : RequestFrame}

/-! ### The items of requests and of internal events -/

theorem ChoiceFits.stays (h : ChoiceFits s) (hb : t.banks = s.banks)
    (hg : ∀ g : GroupId, s.groups[g].Stays t.groups[g]) : ChoiceFits t :=
  h.congr hb fun g => by
    obtain ⟨current, -, wear, -⟩ := hg g
    exact ⟨current, wear⟩

theorem Served.choiceFits (hr : Served p f s u) (h : ChoiceFits s) : ChoiceFits u :=
  h.stays hr.frame.2.2.2.2.2.2.2.1 hr.storeMove.groups

theorem Handled.choiceFits {e : Event} (hr : Handled s e u) (h : ChoiceFits s) : ChoiceFits u := by
  obtain move | ⟨g, at', -, -, -, rfl⟩ := hr.storeMove
  · exact h.stays hr.frame.2.2.2.2.2.2.2.1 move.groups
  · exact h.setGroup (g := g) rfl rfl ⟨rfl, rfl⟩

theorem HomesApart.engaged (h : HomesApart s) : HomesApart s.engaged := h.eqs (by simp) (by simp)

theorem HomesApart.finish (h : HomesApart s) : HomesApart s.finish :=
  HomesApart.engaged (s := { s with item := none }) h

theorem ChoiceFits.finish (h : ChoiceFits s) : ChoiceFits s.finish :=
  ChoiceFits.engaged (s := { s with item := none }) h

/-- The homes and the choice of the banks, where the part restores or serves. -/
theorem KeysApart.on (hs : KeysApart s) (on : s.phase = .restoring ∨ s.phase = .running) :
    HomesApart s ∧ ChoiceFits s := by
  obtain ⟨serving, -⟩ := keysApart_iff.1 hs
  obtain ⟨homes, -, choice⟩ := serving on
  exact ⟨homes, choice⟩

/-! ### Reset and loss of power -/

theorem HeldSound.no_rewrites (held : HeldSound s) (off : s.phase = .off ∨ s.phase = .reset) :
    s.cutOffRewrites = s := by
  obtain ⟨-, -, -, -, -, -, -, active, suspended, -⟩ := held off
  unfold State.cutOffRewrites
  rw [suspended, active]
  rfl

/-- R101: no two images that a restore would load from after a reset have one key. -/
theorem KeysApart.cleared (hs : KeysApart s) (held : HeldSound s) (hq : QueueSound s) (hi : ImagesSound s)
    {ph : RunState} (off : ph = .off ∨ ph = .reset) : KeysApart (s.cutOffRewrites.cleared ph) := by
  refine .of_off off fun h h' k x x' e e' => ?_
  rw [State.storedImage_congr (t := s.cutOffRewrites.cleared ph) (s := s.cutOffRewrites) rfl] at e e'
  obtain none | on := off_or_on s
  · rw [held.no_rewrites none] at e e'
    exact (keysApart_iff.1 hs).2 none h h' k x x' e e'
  · obtain ⟨homes, choice⟩ := hs.on on
    have stored := storedFit_cutOffRewrites (imagesSound_iff.1 hi on) choice hq
    exact homes h h' k (stored h.group h.home k x e) (stored h'.group h'.home k x' e')

/-! ### Restore -/

/-- R110: a group record set from its banks has the bank that a restore chooses, and its wear count. -/
theorem ChoiceFits.chosen (hb : t.banks = s.banks) (hg : ∀ g : GroupId, t.groups[g] = restoredGroup g s.banks[g]) :
    ChoiceFits t := fun g => by
  have record := restoredGroup_eq s g _ rfl
  rw [hg, State.chosenBank_congr (by rw [hb] : t.banks[g] = s.banks[g])]
  refine ⟨congrArg Group.current record, fun which hc => ?_⟩
  have chosen : s.chosenBank g = some which := (congrArg Group.current record).symm.trans hc
  have wear := congrArg Group.wear record
  rw [chosen] at wear
  rw [State.bank, hb]
  exact wear.symm

theorem KeysApart.restored (hs : KeysApart s) (held : HeldSound s) (hp : s.phase = .reset) (v0 v1 v2 v3 : Privilege) :
    KeysApart ((s.beginRestore.sampleStraps v0 v1 v2 v3).restoreGroups (List.finRange 16)) := by
  have through := held.goesThrough hp v0 v1 v2 v3
  refine .of_on (.inl (by simp [State.beginRestore])) (.restored held hp v0 v1 v2 v3) (fun h h' k e e' => ?_) ?_
  · obtain ⟨x, stored⟩ := (through.homeKey h k).1 e
    obtain ⟨x', stored'⟩ := (through.homeKey h' k).1 e'
    exact (keysApart_iff.1 hs).2 (.inr hp) h h' k x x' stored stored'
  · exact .chosen (s := s) through.banks fun g =>
      (State.restoreGroups_at _ _ g).trans (if_pos (List.mem_finRange g))

/-! ### PFW#, time and the Store Engine -/

theorem State.tickActive_groups (s : State) (g : GroupId) :
    s.tickActive.groups[g].current = s.groups[g].current ∧ s.tickActive.groups[g].wear = s.groups[g].wear := by
  obtain ⟨current, -, wear, -⟩ := (StoreMove.tickActive s).groups g
  exact ⟨current, wear⟩

theorem Ran.keysApart (h : Ran s c t) (base : BaseSound s) (store : StoreSound s) (hi : ImagesSound s)
    (hs : KeysApart s) : KeysApart t := by
  have images := h.imagesSound base store.1 hi
  obtain ⟨held, table⟩ := base
  cases h with
  | idle => exact hs
  | request c p f u row item served =>
    have on := held.on_of_item (State.item_of_request item)
    obtain ⟨homes, choice⟩ := hs.on on
    have phase : u.finish.phase = s.phase := (by simp : u.finish.phase = u.phase).trans served.frame.2.1
    exact .of_on (phase ▸ on) images (served.homesApart table homes).finish (served.choiceFits choice).finish
  | event c e u row item handled =>
    have on := held.on_of_item (State.item_of_event item)
    obtain ⟨homes, choice⟩ := hs.on on
    have phase : u.finish.phase = s.phase := (by simp : u.finish.phase = u.phase).trans handled.frame.2.1
    exact .of_on (phase ▸ on) images (handled.homesApart table homes).finish (handled.choiceFits choice).finish
  | reset => exact hs.cleared held store.1 hi (.inr rfl)
  | powerLost => exact hs.cleared held store.1 hi (.inl rfl)
  | restored v0 v1 v2 v3 hp => exact hs.restored held hp v0 v1 v2 v3
  | restoreEnded restoring =>
    obtain ⟨homes, choice⟩ := hs.on (.inl restoring)
    exact .of_on (.inr (by simp)) images (homes.eqs (by simp) (by simp)) (choice.eqs (by simp) (by simp))
  | pfwServing running =>
    obtain ⟨homes, choice⟩ := hs.on (.inr running)
    have pfw : ChoiceFits { s with pfw := true } := choice
    have queue : QueueSound { s with pfw := true } := store.1
    exact .of_on (.inr (by simp [running])) images (homes.eqs (by simp) (by simp))
      ((pfw.abandonSuspended queue).abandonActive.eqs (by simp) (by simp))
  | ticked =>
    refine hs.step images (by simp) (fun _ => by simp) (fun _ homes => homes.eqs (by simp) (by simp)) fun _ choice => ?_
    exact choice.congr (by simp) fun g => by
      have same := s.fallAllDue.tickActive_groups g
      simpa using same
  | started running =>
    have worked := Worked.startWork store.1
    obtain ⟨phase, slots, -, homeMap⟩ := worked.table
    exact hs.step images phase (fun _ => worked.banks) (fun _ homes => homes.eqs slots homeMap) fun _ choice =>
      choice.worked worked
  | report c a u row reported =>
    obtain ⟨-, phase, slots, -, homeMap, -⟩ := reported.frame
    have on := held.on_of_active (by rw [reported.active]; nofun)
    obtain ⟨homes, choice⟩ := hs.on on
    exact .of_on (phase ▸ on) images (homes.eqs slots homeMap)
      (reported.choiceFits store.1 store.2 (imagesSound_iff.1 hi on) choice)
  | _ =>
    exact hs.step images (by simp) (fun _ => by simp) (fun _ homes => homes.eqs (by simp) (by simp))
      fun _ choice => choice.eqs (by simp) (by simp)

/-- Settles O13: each kind of command keeps the homes apart and the choice of the banks; a reset at any point of a
rewrite leaves the images of the homes' keys. -/
theorem stepKeepsKeysApart : Obligations.StepKeepsKeysApart := fun _ _ hs h =>
  (step_keeps (P := fun s => BaseSound s ∧ StoreSound s ∧ ImagesSound s ∧ KeysApart s) (fun _ _ hs => hs)
    (fun _ _ _ ran ⟨base, store, images, keys⟩ =>
      ⟨ran.baseSound base, ran.storeSound base.1 store, ran.imagesSound base store.1 images,
        ran.keysApart base store images keys⟩) hs h).2.2.2

end Sys2Proof.Machine
end

section
/-! PROOFS. The invariants hold while a device reset is held (O14). -/

namespace Sys2Proof.Machine

theorem reset_cleared : State.reset = State.reset.cleared .reset := rfl

theorem reset_slots (i : Slot) : State.reset.slots[i] = none := by simp [State.reset]

theorem reset_banks (g : GroupId) : State.reset.banks[g] = ⟨[], []⟩ := by simp [State.reset]

theorem reset_storedImage (h : HomeId) : State.reset.storedImage h = none := by
  refine State.storedImage_none (State.chosenBank_none.2 fun which => ?_) h.home
  rw [State.bank, reset_banks]
  cases which <;> exact erased_not_valid h.group

theorem reset_parkedTags (p : PortId) : State.reset.parkedTags p = [] := by
  simp [State.parkedTags, State.syncTags, State.reset, blankGroup]

theorem reset_base : BaseSound State.reset := by
  have table : TableSound State.reset := .empty reset_slots rfl fun h => by simp [State.home, State.reset]
  refine ⟨fun _ => ⟨reset_slots, rfl, fun g h => ?_, rfl, rfl, rfl, rfl, rfl, rfl, rfl⟩, table⟩
  simp [State.home, State.reset]

theorem reset_records : RecordsSound State.reset := fun i r hr => by
  rw [reset_slots] at hr
  cases hr

theorem reset_deadlines : DeadlinesSound State.reset := by
  have claims : State.reset.parkedClaims = 0 := List.sum_eq_zero fun n hn => by
    obtain ⟨i, -, rfl⟩ := List.mem_map.1 hn
    rw [reset_slots]
    rfl
  have waiting : State.reset.waiting = [] := rfl
  have used : State.reset.usedSerials = [] := rfl
  refine ⟨.nil, nofun, .nil, nofun, fun i r hr => ?_, ?_, nofun⟩
  · rw [reset_slots] at hr
    cases hr
  · rw [claims, used]
    decide

theorem reset_parked : ParkedSound State.reset := fun p => by
  have port : State.reset.ports[p] = blankPort false .operator := by simp [State.reset]
  rw [reset_parkedTags, port]
  exact ⟨rfl, by rw [if_neg (by simp [State.waiting, State.event, State.reset])]; exact .nil, fun _ => rfl⟩

theorem reset_banksSound : BanksSound State.reset := fun g => by
  have group : State.reset.groups[g] = blankGroup := by simp [State.reset]
  rw [reset_banks, group]
  exact ⟨rfl, rfl, nofun⟩

theorem reset_keys : KeysApart State.reset := .of_off (.inr rfl) fun h h' k x x' e => by
  rw [reset_storedImage] at e
  cases e

/-- Settles O14: everything is empty, and no bank holds an image. -/
theorem resetMeetsTheInvariants : Obligations.ResetMeetsTheInvariants := by
  have ports : PortsSound State.reset := reset_cleared ▸ PortsSound.cleared State.reset (ph := .reset) nofun
  have store : StoreSound State.reset := reset_cleared ▸ StoreSound.cleared reset_banksSound .reset
  exact ⟨reset_base, reset_records, reset_deadlines, ports, reset_parked, store, .of_off (.inr rfl), reset_keys⟩

end Sys2Proof.Machine
end

section
/-! PROOFS. Rewrites: their start and capture (O55), their phases and switch (O56), their failures (O57) and the pause of
an erase (O58). -/

namespace Sys2Proof.Machine

variable {s : State} {g : GroupId} {ph : RewritePhase} {at' : Attempt} {cap : Vector CapturedHome 16}

theorem Rewriting.activeIn (h : Rewriting s g ph at' cap) : s.activeIn ph = some ⟨g, at', cap⟩ := by
  obtain ⟨active, state, capture⟩ := h
  simp only [State.activeIn, active, state, capture, if_pos]

/-! ### Start and capture (R120, R121, R137) -/

theorem exec_rewriteStart (running : s.phase = .running) : exec .rewriteStart s = .next s.startWork := if_pos running

theorem State.startWork_idle (h : s.pfw = true ∨ s.active ≠ none) : s.startWork = s := by
  unfold State.startWork
  split
  · rfl
  · rename_i unwarned
    have active := h.resolve_left unwarned
    split
    · rfl
    · exact absurd ‹_› active

theorem State.startWork_resumes (unwarned : s.pfw = false) (idle : s.active = none) (suspended : s.suspended = some g) :
    s.startWork = s.resume g := by
  simp [State.startWork, unwarned, idle, suspended]

theorem State.startWork_starts (unwarned : s.pfw = false) (idle : s.active = none) (suspended : s.suspended = none) :
    s.startWork = s.startHead := by
  simp [State.startWork, unwarned, idle, suspended]

theorem exec_captureEvent (h : Serves s (.event (.capture g))) :
    exec .captureEvent s = .next (s.acceptCapture g (s.captureGroup g)).finish := by
  show execCaptureEvent s = _
  simp only [execCaptureEvent, State.event_iff.2 h]

theorem State.acceptCapture_eq (state : s.groups[g].state = .rewriting .captured at')
    (empty : s.groups[g].capture = none) (cap : Vector CapturedHome 16) :
    s.acceptCapture g cap = { s with
      groups := s.groups.set g { s.groups[g] with
        state := .rewriting .erasing at', capture := some cap, dirtyAgain := false
        syncs := s.groups[g].syncs.map fun w => { w with captured := true }, ticks := 0 } } := by
  simp only [State.acceptCapture, state, empty]
  rfl

theorem State.acceptCapture_discards (h : s.groups[g].state.phase? ≠ some .captured ∨ s.groups[g].capture ≠ none)
    (cap : Vector CapturedHome 16) : s.acceptCapture g cap = s := by
  unfold State.acceptCapture
  split
  · rename_i state empty
    rw [state, empty] at h
    exact absurd rfl (h.resolve_left (by simp [GroupState.phase?]))
  · rfl

theorem captureGroup_at (s : State) (g : GroupId) (h : Fin 16) :
    (s.captureGroup g)[h] = s.captureHome (s.home ⟨g, h⟩) := by
  simp [State.captureGroup, vmap, State.home]

/-- Settles O55: the work that starts and the capture that is accepted, case by case. -/
theorem rewriteStartsAndCaptures : Obligations.RewriteStartsAndCaptures := by
  refine ⟨fun s running unwarned idle => ⟨fun g at' suspended state => ?_, fun g rest suspended queue => ?_,
    fun suspended queue => ?_⟩, fun s h => ?_, fun s g event => ⟨fun at' state empty => ?_, fun h => ?_⟩⟩
  · rw [exec_rewriteStart running, State.startWork_resumes unwarned idle suspended, State.resume_eq state]
  · rw [exec_rewriteStart running, State.startWork_starts unwarned idle suspended, State.startHead_eq queue]
  · rw [exec_rewriteStart running, State.startWork_starts unwarned idle suspended, State.startHead_nil queue]
  · by_cases running : s.phase = .running
    · rw [exec_rewriteStart running, State.startWork_idle (h.resolve_left (absurd running))]
    · exact if_neg running
  · refine ⟨s.captureGroup g, fun h => ?_, ?_⟩
    · rw [captureGroup_at]
      refine ⟨fun e => by rw [e]; rfl, fun k e => by rw [e]; rfl, fun i r e hr => ?_⟩
      rw [e]
      simp only [State.captureHome, hr]
    · rw [exec_captureEvent event, State.acceptCapture_eq state empty]
  · rw [exec_captureEvent event, State.acceptCapture_discards h]

/-! ### The phases and the switch (R122 to R125) -/

theorem switchedQueue_eq (x : Group) (g : GroupId) (q : List GroupId) :
    switchedQueue x g q = if x.switchState = .queued then
      if ∃ w ∈ x.syncs, w.captured = false then g :: q else q ++ [g] else q := by
  unfold switchedQueue
  rw [switchedGroup_eq]
  refine if_congr Iff.rfl (if_congr ?_ rfl rfl) rfl
  simp [List.any_eq_true]

/-- Settles O56: each report of an end in time, and the bank that it leaves. -/
theorem rewriteErasesProgramsAndSwitches : Obligations.RewriteErasesProgramsAndSwitches := by
  refine fun s g at' cap => ⟨fun active time => ?_, fun active time => ?_, fun active time banks => ?_⟩
  · have intime : eraseInTime s.groups[g] = true := decide_eq_true time
    show execEraseDone true s = _
    simp only [execEraseDone, Rewriting.activeIn active, if_pos, intime]
    rfl
  · have intime : programInTime s.groups[g] = true := decide_eq_true time
    refine ⟨s.programmedImage ⟨g, at', cap⟩, ?_, programmedImage_bytes s ⟨g, at', cap⟩, fun o ho => ?_,
      Memory.wf_writeBytes Memory.wf_erased _ _⟩
    · show execProgrammingDone true s = _
      simp only [execProgrammingDone, Rewriting.activeIn active, intime, and_self, if_pos]
      rfl
    · exact (Memory.read_writeBytes_above _ _ (by rw [length_imageBytes]; exact ho)).trans rfl
  · have intime : programInTime s.groups[g] = true := decide_eq_true time
    refine ⟨s.markedBank g, ?_, markedBank_image s g, markedBank_mark (banks.bank _ _)⟩
    show execCommitMarkDone true s = _
    simp only [execCommitMarkDone, Rewriting.activeIn active, intime, and_self, if_pos]
    rw [State.switch_eq, State.switchedAt, switchedQueue_eq]
    rfl

/-! ### Failures (R127, R128, R138) -/

/-- Every report of a failure leaves the rewrite to fail. -/
theorem exec_failure {report : Instr} (h : Rewriting s g ph at' cap) (row : report ∈ failureReports s.groups[g] ph) :
    ∃ m, FailureLeaves s ⟨g, at', cap⟩ m ∧ exec report s = .next (s.failsLeaving ⟨g, at', cap⟩ m) := by
  have active := Rewriting.activeIn h
  have late (limit : Nat) (c : Instr)
      (hc : report ∈ if limit < s.groups[g].ticks then [c] else []) : report = c ∧ limit < s.groups[g].ticks := by
    split at hc
    · exact ⟨List.mem_singleton.1 hc, ‹_›⟩
    · cases hc
  cases ph with
  | captured => cases row
  | suspended => cases row
  | erasing =>
    obtain row | row := List.mem_append.1 row
    · simp only [List.mem_cons, List.not_mem_nil, or_false] at row
      obtain rfl | rfl := row
      · refine ⟨_, .inl rfl, ?_⟩
        show execEraseTimeout s = _
        simp only [execEraseTimeout, active]
        rfl
      · refine ⟨_, .inr (.inl rfl), ?_⟩
        show execEraseDone false s = _
        simp only [execEraseDone, active, Bool.false_eq_true, if_false]
        rfl
    · obtain ⟨rfl, past⟩ := late _ _ row
      have intime : ¬ eraseInTime s.groups[g] = true := by
        rw [eraseInTime, decide_eq_true_iff]
        exact Nat.not_le.2 past
      refine ⟨_, .inl rfl, ?_⟩
      show execEraseDone true s = _
      simp only [execEraseDone, active, if_pos, if_neg intime]
      rfl
  | programming =>
    refine ⟨_, .inr (.inr (.inl rfl)), ?_⟩
    obtain row | row := List.mem_append.1 row
    · simp only [List.mem_cons, List.not_mem_nil, or_false] at row
      obtain rfl | rfl := row
      · show execProgramTimeout s = _
        simp only [execProgramTimeout, active]
        rfl
      · show execProgrammingDone false s = _
        simp only [execProgrammingDone, active, Bool.false_eq_true, false_and, if_false]
        rfl
    · obtain ⟨rfl, past⟩ := late _ _ row
      have intime : ¬ programInTime s.groups[g] = true := by
        rw [programInTime, decide_eq_true_iff]
        exact Nat.not_le.2 past
      show execProgrammingDone true s = _
      simp only [execProgrammingDone, active, true_and, if_neg intime]
      rfl
  | committing =>
    refine ⟨_, .inr (.inr (.inr rfl)), ?_⟩
    obtain row | row := List.mem_append.1 row
    · simp only [List.mem_cons, List.not_mem_nil, or_false] at row
      obtain rfl | rfl := row
      · show execCommitMarkTimeout s = _
        simp only [execCommitMarkTimeout, active]
        rfl
      · show execCommitMarkDone false s = _
        simp only [execCommitMarkDone, active, Bool.false_eq_true, false_and, if_false]
        rfl
    · obtain ⟨rfl, past⟩ := late _ _ row
      have intime : ¬ programInTime s.groups[g] = true := by
        rw [programInTime, decide_eq_true_iff]
        exact Nat.not_le.2 past
      show execCommitMarkDone true s = _
      simp only [execCommitMarkDone, active, true_and, if_neg intime]
      rfl

/-- Settles O57: whatever report tells of the failure, the bank is left not VALID, and the attempt decides. -/
theorem rewriteFailureRetriesOrFaults : Obligations.RewriteFailureRetriesOrFaults := by
  intro s g ph at' cap report active row banks
  obtain ⟨m, left, run⟩ := exec_failure active row
  obtain ⟨wf, invalid⟩ := left.not_valid (banks.bank _ _)
  refine ⟨failedBank at' m, s.fresh + 1, failedBank_not_valid wf invalid at', fun e => ?_, run.trans ?_⟩
  · rw [e]
    exact failedBank_invalid wf invalid
  · cases at' with
    | first =>
      show Host.Outcome.next (if s.pfw = true then _ else _) = Host.Outcome.next (if s.pfw = true then _ else _)
      split <;> rfl
    | retry => rfl

/-! ### The pause of an erase (R136) -/

/-- Settles O58: the suspended group leaves the head of the queue as it was. -/
theorem pauseSuspendsAndStartsTheHead : Obligations.PauseSuspendsAndStartsTheHead := by
  intro s g h at' cap rest active unwarned
  have rewriting := Rewriting.activeIn active
  refine ⟨fun ordered queue other => ?_, fun ordered => ?_⟩
  · show execErasePaused s = _
    simp only [execErasePaused, rewriting]
    rw [if_pos ordered, if_neg (by rw [unwarned]; nofun)]
    have kept : (s.suspendActive ⟨g, at', cap⟩).groups[h] = s.groups[h] :=
      (vector_set_at _ _ _ _).trans (if_neg (Ne.symm other))
    rw [State.startHead_eq (s := s.suspendActive ⟨g, at', cap⟩) (g := h) (rest := rest) queue, kept]
    rfl
  · show execErasePaused s = _
    simp only [execErasePaused, rewriting]
    exact if_neg (by rw [ordered]; nofun)

end Sys2Proof.Machine
end

section
/-! PROOFS. What a reset, a loss of power (O15) and PFW# (O20) make of the rewrites that they cut off. -/

namespace Sys2Proof.Machine

variable {s t : State} {g g' : GroupId} {which : BankId}

/-! ### A rewrite cut off (R107, R140; log 13) -/

theorem State.cutOff_eq (s : State) (g : GroupId) : ∃ b n, s.cutOff g = { s with banks := b, fresh := n } := by
  unfold State.cutOff
  split <;> exact ⟨_, _, rfl⟩

theorem State.cutOffRewrite_eq (s : State) (o : Option GroupId) :
    ∃ b n, s.cutOffRewrite o = { s with banks := b, fresh := n } := by
  cases o with
  | none => exact ⟨_, _, rfl⟩
  | some g => exact s.cutOff_eq g

/-- Only the spare bank of the group is touched. -/
theorem State.cutOff_bank (h : g' ≠ g ∨ which ≠ spareOf s.groups[g'].current) :
    (s.cutOff g).bank g' which = s.bank g' which := by
  obtain e | ⟨m, -, e⟩ := s.cutOff_banks g
  · rw [State.bank, e, State.bank]
  · have kept : (s.setSpare g m).bank g' which = s.bank g' which := by
      rw [State.setSpare_bank]
      refine if_neg fun both => ?_
      obtain ⟨rfl, spare⟩ := both
      exact h.elim (absurd rfl) (absurd spare)
    rw [← kept, State.bank, e, State.bank]

/-- In phase CAPTURED nothing had been ordered of the array. -/
theorem State.cutOff_captured (h : s.groups[g].state.phase? = some .captured) : s.cutOff g = s := by
  obtain ⟨at', state⟩ := phase_some.1 h
  simp only [State.cutOff, state]

/-- A cut-off erase or program leaves no VALID spare bank. -/
theorem State.cutOff_not_valid (h : s.groups[g].state.phase? = some .erasing
      ∨ s.groups[g].state.phase? = some .suspended ∨ s.groups[g].state.phase? = some .programming) :
    judgeBank g ((s.cutOff g).spareBank g) ≠ .valid := by
  have spare {n : Nat} {m : Memory} (hm : bankValid g m = false) :
      judgeBank g (State.spareBank { s.setSpare g m with fresh := n } g) ≠ .valid := by
    have bank : State.spareBank { s.setSpare g m with fresh := n } g = m := State.setSpare_spareBank s g m
    rw [bank]
    exact judgeBank_ne_valid_iff.2 hm
  unfold State.cutOff
  obtain h | h | h := h <;> obtain ⟨at', state⟩ := phase_some.1 h <;> simp only [state]
  · exact spare (leftNotValid_not_valid _ _)
  · exact spare (leftNotValid_not_valid _ _)
  · exact spare (leftProgrammed_not_valid _ _)

/-- A cut-off commit mark leaves the image in the spare bank. -/
theorem State.cutOff_image (h : s.groups[g].state.phase? = some .committing) :
    ((s.cutOff g).spareBank g).readBytes 0 297 = (s.spareBank g).readBytes 0 297 := by
  obtain ⟨at', state⟩ := phase_some.1 h
  simp only [State.cutOff, state]
  have bank : State.spareBank { s.setSpare g (markCutOff (s.spareBank g) s.fresh) with fresh := s.fresh + 1 } g
      = markCutOff (s.spareBank g) s.fresh := State.setSpare_spareBank s g _
  rw [bank]
  exact markCutOff_image _ _

theorem State.spareBank_congr (hg : t.groups = s.groups) (hb : t.banks[g] = s.banks[g]) :
    t.spareBank g = s.spareBank g := by
  unfold State.spareBank State.bank
  rw [hg, hb]

/-- What the cut-offs of the active and of the suspended rewrite keep. -/
theorem cutOffRewrites_keeps {P : State → Prop} (h : P s)
    (one : ∀ (t : State) (g : GroupId), t.groups = s.groups → s.active = some g ∨ s.suspended = some g → P t → P (t.cutOff g)) :
    P s.cutOffRewrites := by
  have each (t : State) (o : Option GroupId) (ho : s.active = o ∨ s.suspended = o) (hg : t.groups = s.groups)
      (ht : P t) : P (t.cutOffRewrite o) := by
    cases o with
    | none => exact ht
    | some g => exact one t g hg ho ht
  exact each _ _ (.inr rfl) (by simp) (each s _ (.inl rfl) rfl h)

/-- What the cut-off of one group's rewrite brings about, and that of another keeps. -/
theorem cutOffRewrites_meets {P : State → Prop} (h : s.active = some g ∨ s.suspended = some g)
    (hit : ∀ t : State, t.groups = s.groups → P (t.cutOff g))
    (miss : ∀ (t : State) (g' : GroupId), t.groups = s.groups → g ≠ g' → P t → P (t.cutOff g')) : P s.cutOffRewrites := by
  have each (t : State) (o : Option GroupId) (hg : t.groups = s.groups) (ho : o = some g ∨ P t) :
      P (t.cutOffRewrite o) := by
    cases o with
    | none => exact ho.resolve_left nofun
    | some g' =>
      by_cases e : g = g'
      · subst e; exact hit t hg
      · exact miss t g' hg e (ho.resolve_left fun e' => e (Option.some.inj e').symm)
  refine each _ _ (by simp) ?_
  by_cases hs : s.suspended = some g
  · exact .inl hs
  · exact .inr (each s _ rfl (.inl (h.resolve_right hs)))

/-- Settles O15: what the two rewrites leave, phase by phase, and the rest is cleared. -/
theorem resetAndLossOfPowerClear : Obligations.ResetAndLossOfPowerClear := by
  refine fun s c ph kind => ⟨s.cutOffRewrites.banks, s.cutOffRewrites.fresh, ?_, fun g which h => ?_, fun g h =>
    ⟨fun captured => ?_, fun stopped => ?_, fun committing => ?_⟩⟩
  · have run : exec c s = .next (s.cutOffRewrites.cleared ph) := by
      obtain ⟨rfl, rfl⟩ | ⟨rfl, rfl⟩ := kind <;> rfl
    have ports : (s.cutOffRewrites.cleared ph).ports
        = Vector.ofFn fun q => blankPort s.ports[q].prst s.ports[q].privilege := vector_ext fun q => by
      rw [blankPorts_at]
      simp
    have state : s.cutOffRewrites.cleared ph = { State.reset with
        pending := s.cutOffRewrites.pending, phase := ph, ports := (s.cutOffRewrites.cleared ph).ports
        banks := s.cutOffRewrites.banks, pfw := s.cutOffRewrites.pfw, fresh := s.cutOffRewrites.fresh } := rfl
    rw [run, state, ports, (s.cutOffRewrites_frame).1, (by simp : s.cutOffRewrites.pfw = s.pfw)]
    rfl
  · refine cutOffRewrites_keeps (P := fun t => t.bank g which = s.bank g which) rfl fun t g' hg cut kept => ?_
    refine (State.cutOff_bank ?_).trans kept
    rw [hg]
    refine h.symm.imp (fun out e => ?_) id
    subst e
    exact cut.elim out.1 out.2
  · refine cutOffRewrites_keeps (P := fun t => t.banks[g] = s.banks[g]) rfl fun t g' hg _ kept => ?_
    by_cases e : g = g'
    · subst e
      rw [State.cutOff_captured (by rw [hg]; exact captured), kept]
    · rw [cutOff_others t g' g e, kept]
  · have left := cutOffRewrites_meets (P := fun t => t.groups = s.groups ∧ judgeBank g (t.spareBank g) ≠ .valid) h
      (fun t hg => ⟨(t.cutOff_eqs g).1.trans hg, State.cutOff_not_valid (by rw [hg]; exact stopped)⟩)
      fun t g' hg other left => ⟨(t.cutOff_eqs g').1.trans hg, by
        rw [State.spareBank_congr (t := t.cutOff g') (s := t) (t.cutOff_eqs g').1 (cutOff_others t g' g other)]
        exact left.2⟩
    rw [← left.1]
    exact left.2
  · have left := cutOffRewrites_keeps (P := fun t => t.groups = s.groups
        ∧ (t.spareBank g).readBytes 0 297 = (s.spareBank g).readBytes 0 297) ⟨rfl, rfl⟩ fun t g' hg _ kept => by
      refine ⟨(t.cutOff_eqs g').1.trans hg, Eq.trans ?_ kept.2⟩
      by_cases e : g = g'
      · subst e
        exact State.cutOff_image (by rw [hg]; exact committing)
      · rw [State.spareBank_congr (t := t.cutOff g') (s := t) (t.cutOff_eqs g').1 (cutOff_others t g' g e)]
    rw [← left.1]
    exact left.2

/-! ### PFW# (R138, R139) -/

/-- R138: the active rewrite is abandoned with the PFW# asserted before the array is programmed. -/
abbrev Early (s : State) (g : GroupId) : Prop :=
  s.groups[g].state.phase? = some .captured ∨ s.groups[g].state.phase? = some .erasing

theorem set_eq_ofFn {α : Type} {n : Nat} (v : Vector α n) (i : Fin n) {x : α} (f : Fin n → α) (hi : f i = x)
    (ho : ∀ j, j ≠ i → f j = v[j]) : v.set i x = Vector.ofFn f := vector_ext fun j => by
  rw [vector_set_at]
  split
  · subst j; simp [hi]
  · rename_i ne
    simp [ho j (Ne.symm ne)]

theorem State.abandonSuspended_eq (s : State) : s.abandonSuspended = { s.cutOffRewrite s.suspended with
    groups := Vector.ofFn fun g => if s.suspended = some g then s.groups[g].abandoned else s.groups[g]
    queue := s.suspended.toList ++ s.queue, suspended := none } := by
  unfold State.abandonSuspended
  cases hs : s.suspended with
  | none =>
    have groups : s.groups = Vector.ofFn fun g => if none = some g then s.groups[g].abandoned else s.groups[g] :=
      vector_ext fun g => by simp
    rw [← groups]
    show s = { s with suspended := none }
    rw [← hs]
  | some g =>
    obtain ⟨b, n, e⟩ := s.cutOff_eq g
    have groups : s.groups.set g s.groups[g].abandoned
        = Vector.ofFn fun g' => if some g = some g' then s.groups[g'].abandoned else s.groups[g'] :=
      set_eq_ofFn _ _ _ (if_pos rfl) fun j ne => if_neg fun e => ne (Option.some.inj e).symm
    rw [← groups]
    show { (s.cutOff g).requeueAbandoned g with suspended := none } = { s.cutOff g with
      groups := s.groups.set g s.groups[g].abandoned, queue := [g] ++ s.queue, suspended := none }
    rw [e]
    rfl

theorem State.abandonActive_late (h : ∀ g, s.active = some g → ¬ Early s g) : s.abandonActive = s := by
  unfold State.abandonActive
  split
  · rfl
  · rename_i g active
    have late := h g active
    split
    · rename_i state
      exact absurd (.inl (phase_some.2 ⟨_, state⟩)) late
    · rename_i state
      exact absurd (.inr (phase_some.2 ⟨_, state⟩)) late
    all_goals rfl

theorem State.abandonActive_early (active : s.active = some g) (early : Early s g)
    (pause : s.groups[g].state.phase? = some .captured → s.pauseOrdered = false) :
    s.abandonActive = { s.cutOff g with
      groups := s.groups.set g s.groups[g].abandoned, queue := g :: s.queue, active := none, pauseOrdered := false } := by
  unfold State.abandonActive
  obtain ⟨b, n, e⟩ := s.cutOff_eq g
  obtain phase | phase := early
  · obtain ⟨at', state⟩ := phase_some.1 phase
    simp only [active, state]
    rw [State.cutOff_captured phase, ← pause phase]
    rfl
  · obtain ⟨at', state⟩ := phase_some.1 phase
    simp only [active, state]
    rw [e]
    rfl

theorem QueueSound.abandoned_iff (h : QueueSound s) (g : GroupId) :
    Abandoned s g ↔ s.suspended = some g ∨ (s.active = some g ∧ Early s g) := by
  rw [h.2.2.1 g, h.2.2.2.1 g]
  refine ⟨fun a => ?_, fun a => ?_⟩
  · obtain a | a | a := a
    · exact .inr ⟨by rw [a]; exact ⟨nofun, nofun⟩, .inl a⟩
    · exact .inr ⟨by rw [a]; exact ⟨nofun, nofun⟩, .inr a⟩
    · exact .inl a
  · obtain a | ⟨-, a | a⟩ := a
    · exact .inr (.inr a)
    · exact .inl a
    · exact .inr (.inl a)

theorem State.cutOffRewrite_bank {o : Option GroupId} (h : o ≠ some g ∨ which ≠ spareOf s.groups[g].current) :
    (s.cutOffRewrite o).bank g which = s.bank g which := by
  cases o with
  | none => rfl
  | some g' => exact State.cutOff_bank (h.imp_left fun ne e => ne (congrArg some e.symm))

theorem exec_pfwAsserted (running : s.phase = .running) (level : s.pfw = false) : exec .pfwAsserted s =
    .next ((State.abandonActive (State.abandonSuspended { s with pfw := true })).deviceNotice kindPowerWarn none) := by
  show execPfwAsserted s = _
  unfold execPfwAsserted
  rw [if_neg (by rw [level]; nofun), running]

/-- The banks after an abandonment: no spare bank of an abandoned erase is VALID, and no other bank is touched. -/
structure BanksLeft (s : State) (banks : Vector Banks 16) (P : GroupId → Prop) : Prop where
  kept : ∀ (g : GroupId) (which : BankId), which ≠ spareOf s.groups[g].current ∨ ¬ P g
    ∨ s.groups[g].state.phase? = some .captured → banks[g].get which = s.bank g which
  left : ∀ g : GroupId, P g → s.groups[g].state.phase? ≠ some .captured →
    judgeBank g (banks[g].get (spareOf s.groups[g].current)) ≠ .valid

/-- R138: what the assertion makes of the suspended rewrite. -/
theorem QueueSound.abandonsSuspended (hq : QueueSound s) : ∃ (banks : Vector Banks 16) (fresh : Nat)
    (groups : Vector Group 16),
    s.abandonSuspended = { s with
      groups := groups, queue := s.suspended.toList ++ s.queue, suspended := none, banks := banks, fresh := fresh }
    ∧ (∀ g : GroupId, groups[g] = if s.suspended = some g then s.groups[g].abandoned else s.groups[g])
    ∧ BanksLeft s banks fun g => s.suspended = some g := by
  obtain ⟨b, n, cut⟩ := s.cutOffRewrite_eq s.suspended
  have first := s.abandonSuspended_eq
  rw [cut] at first
  refine ⟨b, n, _, first, fun g => by simp, fun g which h => ?_, fun g h _ => ?_⟩
  · have bank := State.cutOffRewrite_bank (s := s) (o := s.suspended) (g := g) (which := which) (by
      obtain h | h | h := h
      · exact .inr h
      · exact .inl h
      · refine .inl fun sus => ?_
        rw [(hq.2.2.1 g).1 sus] at h
        cases h)
    rw [cut] at bank
    exact bank
  · have spare := State.cutOff_not_valid (.inr (.inl ((hq.2.2.1 g).1 h)))
    have same : s.cutOff g = { s with banks := b, fresh := n } := by rw [← cut, h]; rfl
    rw [same] at spare
    exact spare

/-- R138: what the assertion makes of both rewrites, and of the banks. -/
theorem QueueSound.abandons (hq : QueueSound s) : ∃ (banks : Vector Banks 16) (fresh : Nat),
    (s.abandonSuspended).abandonActive = { s with
      groups := Vector.ofFn fun g => if Abandoned s g then s.groups[g].abandoned else s.groups[g]
      queue := (s.active.filter fun g => decide (Abandoned s g)).toList ++ s.suspended.toList ++ s.queue
      active := s.active.filter fun g => decide (¬ Abandoned s g)
      suspended := none, pauseOrdered := false, banks := banks, fresh := fresh }
    ∧ BanksLeft s banks (Abandoned s) := by
  obtain ⟨b, n, groups, first, record, banks⟩ := hq.abandonsSuspended
  have other (g : GroupId) (ha : s.active = some g) : groups[g] = s.groups[g] :=
    (record g).trans (if_neg (hq.not_suspended ha))
  obtain ⟨v, hv⟩ : ∃ v, v = s.abandonSuspended := ⟨_, rfl⟩
  rw [← hv]
  rw [first] at hv
  have vgroups : v.groups = groups := by rw [hv]
  have vactive : v.active = s.active := by rw [hv]
  have early_iff (g : GroupId) (ha : s.active = some g) : Early v g ↔ Early s g := by
    rw [Early, vgroups, other g ha]
  by_cases idle : ∀ g, s.active = some g → ¬ Early s g
  · have abandoned (g : GroupId) : Abandoned s g ↔ s.suspended = some g :=
      (hq.abandoned_iff g).trans (or_iff_left fun early => idle g early.1 early.2)
    have late (g : GroupId) (ha : s.active = some g) : ¬ Abandoned s g := fun h =>
      hq.not_suspended ha ((abandoned g).1 h)
    have pause : s.pauseOrdered = false := by
      by_contra ordered
      obtain ⟨-, g, ha, phase, -⟩ := hq.2.2.2.2.1 (by simpa using ordered)
      exact idle g ha (.inr phase)
    refine ⟨b, n, ?_, fun g which h => banks.kept g which ?_, fun g h => banks.left g ((abandoned g).1 h)⟩
    · rw [State.abandonActive_late (s := v) fun g ha early =>
        idle g (vactive ▸ ha) ((early_iff g (vactive ▸ ha)).1 early), hv]
      congr 1
      · refine vector_ext fun g => ?_
        rw [record g]
        simp [abandoned g]
      · rw [Option.filter_eq_none_iff.2 fun g ha => by simpa using late g ha]
        rfl
      · cases ha : s.active with
        | none => rfl
        | some a => rw [Option.filter_some, if_pos (decide_eq_true (late a ha))]
    · rwa [← abandoned g]
  · simp only [not_forall, not_not] at idle
    obtain ⟨a, active, early⟩ := idle
    have abandoned : Abandoned s a := (hq.abandoned_iff a).2 (.inr ⟨active, early⟩)
    have both (g : GroupId) (ne : g ≠ a) : Abandoned s g ↔ s.suspended = some g :=
      (hq.abandoned_iff g).trans (or_iff_left fun h => ne (Option.some.inj (h.1.symm.trans active)))
    have pause (h : v.groups[a].state.phase? = some .captured) : v.pauseOrdered = false := by
      rw [vgroups, other a active] at h
      obtain ⟨at', state⟩ := phase_some.1 h
      rw [hv]
      exact hq.no_pause_of_phase active state nofun
    obtain ⟨b', n', cut⟩ := v.cutOff_eq a
    have vrecord : v.groups[a] = s.groups[a] := by rw [vgroups, other a active]
    have vbank (g : GroupId) (which : BankId) : v.bank g which = b[g].get which := by rw [hv]; rfl
    have bank (g : GroupId) (which : BankId) (h : g ≠ a ∨ which ≠ spareOf s.groups[g].current) :
        b'[g].get which = b[g].get which := by
      have kept := State.cutOff_bank (s := v) (g := a) (g' := g) (which := which) (by
        rwa [vgroups, record g, show (if s.suspended = some g then s.groups[g].abandoned else s.groups[g]).current
          = s.groups[g].current by split <;> rfl])
      rw [cut, vbank] at kept
      exact kept
    refine ⟨b', n', ?_, fun g which h => ?_, fun g h phase => ?_⟩
    · have taken : groups.set a s.groups[a].abandoned
          = Vector.ofFn fun g => if Abandoned s g then s.groups[g].abandoned else s.groups[g] :=
        set_eq_ofFn _ _ _ (if_pos abandoned) fun g ne => by
          rw [record g]
          exact if_congr (both g ne) rfl rfl
      have head : (s.active.filter fun g => decide (Abandoned s g)) = some a := by
        rw [active]
        exact Option.filter_some_pos (decide_eq_true abandoned)
      have idle : (s.active.filter fun g => decide (¬ Abandoned s g)) = none := by
        rw [active]
        exact Option.filter_some_neg (decide_eq_false (not_not_intro abandoned))
      rw [State.abandonActive_early (vactive.trans active) ((early_iff a active).2 early) pause, cut, vrecord, vgroups,
        taken, head, idle, hv]
      rfl
    · by_cases e : g = a
      · subst e
        have same : b'[g].get which = b[g].get which := by
          obtain h | h | h := h
          · exact bank g which (.inr h)
          · exact absurd abandoned h
          · have captured := State.cutOff_captured (s := v) (g := g) (by rw [vrecord]; exact h)
            rw [cut] at captured
            rw [← vbank, ← captured]
            rfl
        rw [same]
        exact banks.kept g which (.inr (.inl (hq.not_suspended active)))
      · rw [bank g which (.inl e)]
        exact banks.kept g which (by rwa [both g e] at h)
    · by_cases e : g = a
      · subst e
        have left := State.cutOff_not_valid (s := v) (g := g) (.inl (by
          rw [vrecord]
          exact early.resolve_left phase))
        rw [cut] at left
        have spare : v.groups[g].current = s.groups[g].current := by rw [vrecord]
        rw [← spare]
        exact left
      · rw [bank g _ (.inl e)]
        exact banks.left g ((both g e).1 h) phase

/-- Settles O20: the lemmas above for the assertion while serving; otherwise the level alone is taken. -/
theorem pfwAbandonsAndWarns : Obligations.PfwAbandonsAndWarns := by
  refine ⟨fun s running level hq => ?_, fun s level => if_pos level, fun s level restoring => ?_,
    fun s level held => ?_, fun s => rfl⟩
  · have asserted : QueueSound { s with pfw := true } := hq
    obtain ⟨b, n, same, banks⟩ := asserted.abandons
    refine ⟨b, n, ?_, banks.kept, banks.left⟩
    rw [exec_pfwAsserted running level, same, State.deviceNotice_eq]
    rfl
  · show execPfwAsserted s = _
    unfold execPfwAsserted
    rw [if_neg (by rw [level]; nofun), restoring]
  · show execPfwAsserted s = _
    unfold execPfwAsserted
    obtain held | held := held <;> rw [if_neg (by rw [level]; nofun), held]

end Sys2Proof.Machine
end

section
/-! PROOFS. The end of a restore (O18), the reset of a port (O19), device time (O21) and new deadlines (O22). -/

namespace Sys2Proof.Machine

variable {s : State} {g : GroupId} {p : PortId}

/-! ### The end of a restore (R113, R114) -/

theorem State.restoreLostNotices_eq (s : State) (gs : List GroupId) : s.restoreLostNotices gs = { s with
    ports := (gs.filter fun g => s.groups[g].restoreLost).foldl
      (fun ports g => handedAll ports kindRestoreLost (some g)) s.ports } := by
  induction gs generalizing s with
  | nil => rfl
  | cons g rest ih =>
    rw [State.restoreLostNotices, State.restoreLostNotice, List.filter_cons]
    split
    · rw [ih, State.deviceNotice_eq]
      rfl
    · exact ih s

/-- Settles O18: the notices one after another, and then the first client. -/
theorem restoreEndTellsTheLosses : Obligations.RestoreEndTellsTheLosses := by
  intro s restoring
  refine (if_pos restoring).trans ?_
  rw [State.restoreLostNotices_eq, State.powerWarnSeen]
  dsimp only
  split
  · rw [State.deviceNotice_eq]
    rfl
  · rfl

/-! ### The reset of a port (R173, R175) -/

/-- Settles O19: the port is emptied, and the event raised where the engine is not held in reset. -/
theorem prstEmptiesThePort : Obligations.PrstEmptiesThePort := by
  refine fun s p => ⟨fun level => ?_, fun level => if_pos level, rfl, fun r => rfl⟩
  refine (if_neg (by rw [level]; nofun)).trans ?_
  rw [State.raiseEviction]
  dsimp only
  split
  · rename_i on
    split
    · rename_i waits
      exact congrArg Host.Outcome.next (if_neg fun h => h.2 waits).symm
    · rename_i fresh
      exact congrArg Host.Outcome.next (if_pos ⟨on, fresh⟩).symm
  · rename_i off
    exact congrArg Host.Outcome.next (if_neg fun h => off h.1).symm

/-! ### Device time (R63, R67) -/

theorem Group.tick_eq_if (x : Group) : x.tick = if x.state.phase? = some .erasing ∨ x.state.phase? = some .programming
    ∨ x.state.phase? = some .committing then { x with ticks := x.ticks + 1 } else x := by
  unfold Group.tick
  split <;> rename_i state <;> rw [state] <;> rfl

/-- The group records after a tick of the active rewrite. -/
def tickedGroups (groups : Vector Group 16) (active : Option GroupId) : Vector Group 16 :=
  match active with
  | none => groups
  | some g =>
    if groups[g].state.phase? = some .erasing ∨ groups[g].state.phase? = some .programming
        ∨ groups[g].state.phase? = some .committing then
      groups.set g { groups[g] with ticks := groups[g].ticks + 1 }
    else groups

theorem State.eq_of_tickActive (s : State) : s.tickActive = { s with groups := s.tickActive.groups } := by
  unfold State.tickActive
  split <;> rfl

theorem State.tickActive_tickedGroups (s : State) : s.tickActive.groups = tickedGroups s.groups s.active := by
  unfold State.tickActive
  cases s.active with
  | none => rfl
  | some g =>
    show s.groups.set g s.groups[g].tick = tickedGroups s.groups (some g)
    rw [Group.tick_eq_if, tickedGroups]
    split
    · rfl
    · exact Vector.set_eq_of_at rfl

/-- Settles O21: the entries that are due, and the tick of the active rewrite. -/
theorem tickAndFallingDue : Obligations.TickAndFallingDue := by
  refine ⟨fun s on => ?_, fun s held => ?_, fun s d rest list => ?_, fun s list => ?_⟩
  · refine (if_pos on).trans ?_
    have groups : s.fallAllDue.tickActive.groups = tickedGroups s.groups s.active := by
      rw [State.tickActive_tickedGroups, (by simp : s.fallAllDue.groups = s.groups),
        (by simp : s.fallAllDue.active = s.active)]
    rw [s.fallAllDue.eq_of_tickActive, groups]
    rfl
  · exact if_neg fun on => by obtain e | e := held <;> rw [e] at on <;> exact on.elim nofun nofun
  · show Host.Outcome.next s.fallDue = _
    rw [State.fallDue, list]
    dsimp only [reached]
    refine congrArg Host.Outcome.next (if_congr decide_eq_true_iff rfl rfl)
  · show Host.Outcome.next s.fallDue = _
    rw [State.fallDue, list]

/-! ### New deadlines (R63 to R67) -/

theorem succSerial_toNat {n : Serial} (h : n ≠ 0) : (succSerial n).toNat = n.toNat % 4294967295 + 1 := by
  have pos : n.toNat ≠ 0 := fun e => h (BitVec.eq_of_toNat_eq e)
  have small := n.isLt
  unfold succSerial
  split
  · rename_i e
    subst e
    decide
  · rename_i e
    have low : n.toNat ≠ 4294967295 := fun e' => e (BitVec.eq_of_toNat_eq (e'.trans (by decide)))
    rw [BitVec.toNat_add]
    simp
    omega

/-- The counts run through all 4294967295 serials. -/
theorem iterate_succSerial {n : Serial} (h : n ≠ 0) (j : Nat) :
    (succSerial^[j] n).toNat = (n.toNat - 1 + j) % 4294967295 + 1 := by
  have pos : n.toNat ≠ 0 := fun e => h (BitVec.eq_of_toNat_eq e)
  have small := n.isLt
  induction j with
  | zero => simp; omega
  | succ j ih =>
    have here : succSerial^[j] n ≠ 0 := fun e => by
      rw [e] at ih
      exact absurd ih (by simp)
    rw [Function.iterate_succ_apply', succSerial_toNat here, ih]
    omega

/-- A count that is in use has been reached through counts that are all in use. -/
theorem nextFreeSerial_used {used : List Serial} {n : Serial} {k : Nat} (h : nextFreeSerial used n k ∈ used) (j : Nat)
    (hj : j ≤ k) : succSerial^[j] (succSerial n) ∈ used := by
  induction k generalizing n j with
  | zero =>
    obtain rfl := Nat.le_zero.1 hj
    exact h
  | succ k ih =>
    unfold nextFreeSerial at h
    split at h
    · cases j with
      | zero => assumption
      | succ j => exact ih h j (Nat.le_of_succ_le_succ hj)
    · contradiction

/-- R64: while serials are left, the next one is not in use. -/
theorem SerialsLeft.nextSerial_fresh (h : SerialsLeft s) : s.nextSerial ∉ s.usedSerials := by
  intro used
  have all := nextFreeSerial_used used
  set counts := (List.range (s.usedSerials.length + 1)).map fun j => succSerial^[j] (succSerial s.serial) with hc
  have apart : counts.Nodup := by
    refine List.Nodup.map_on (fun i hi j hj e => ?_) List.nodup_range
    have small : s.usedSerials.length < 4294967295 := h
    have i_lt := List.mem_range.1 hi
    have j_lt := List.mem_range.1 hj
    have same := congrArg BitVec.toNat e
    rw [iterate_succSerial (succSerial_ne_zero _), iterate_succSerial (succSerial_ne_zero _)] at same
    omega
  have within : counts ⊆ s.usedSerials := fun n hn => by
    obtain ⟨j, hj, rfl⟩ := List.mem_map.1 hn
    exact all j (by have := List.mem_range.1 hj; omega)
  have fits := (List.subperm_of_subset apart within).length_le
  simp [hc] at fits

theorem insertDeadline_split {now : Word} (d : Deadline) {l : List Deadline}
    (sorted : l.Pairwise fun d e => d.due - now ≤ e.due - now) : ∃ pre post, l = pre ++ post
      ∧ insertDeadline now d l = pre ++ d :: post ∧ (∀ e ∈ pre, e.due - now ≤ d.due - now)
      ∧ ∀ e ∈ post, d.due - now < e.due - now := by
  induction l with
  | nil => exact ⟨[], [], rfl, rfl, nofun, nofun⟩
  | cons e rest ih =>
    obtain ⟨first, sorted⟩ := List.pairwise_cons.1 sorted
    unfold insertDeadline
    split
    · rename_i before
      refine ⟨[], e :: rest, rfl, rfl, nofun, fun x hx => ?_⟩
      obtain rfl | hx := List.mem_cons.1 hx
      · exact before
      · exact Nat.lt_of_lt_of_le (BitVec.lt_def.1 before) (BitVec.le_def.1 (first x hx))
    · rename_i behind
      obtain ⟨pre, post, split, insert, early, late⟩ := ih sorted
      refine ⟨e :: pre, post, by rw [split]; rfl, by rw [insert]; rfl, fun x hx => ?_, late⟩
      obtain rfl | hx := List.mem_cons.1 hx
      · exact BitVec.not_lt.1 behind
      · exact early x hx

/-- Settles O22: the two cases of a new deadline, under a serial that the pigeonhole principle shows free. -/
theorem deadlineJoinsByDueTick : Obligations.DeadlineJoinsByDueTick := by
  intro s kind key p len left sorted t due
  have serial : t.serial = s.nextSerial := State.addDeadline_serial s kind key p len
  refine ⟨fun x item => by simp [State.reading, item], fun item => by simp [State.reading, item], ?_, ?_,
    fun late => ?_, fun ahead => ?_⟩
  · rw [serial]
    exact nextFreeSerial_ne_zero _ _ _
  · rw [serial]
    exact left.nextSerial_fresh
  · rw [serial]
    exact State.addDeadline_late (decide_eq_true late) kind key p
  · obtain ⟨pre, post, list, insert, before, after⟩ := insertDeadline_split ⟨kind, key, p, due, s.nextSerial⟩ sorted
    refine ⟨pre, post, list, ?_, before, after⟩
    rw [serial, ← insert]
    exact State.addDeadline_ahead (decide_eq_false (Nat.not_le.2 ahead)) kind key p

end Sys2Proof.Machine
end

section
/-! PROOFS. The bytes of a transaction (O23) and of a submitted frame (O25). -/

namespace Sys2Proof.Machine

variable {s : State} {p : PortId}

/-! ### Status byte and ATTN# (R94, R158, R171, R189) -/

theorem flagByte_bit (b : Bool) (j : Nat) : (flagByte b).getLsbD j = (b && decide (j = 0)) := by
  cases b
  · simp [flagByte]
  · by_cases h : j = 0 <;> simp [flagByte, h]

/-- R189: a flag in its bit of a byte. -/
theorem flagByte_shift_bit (b : Bool) {k j : Nat} (hj : j < 8) :
    (flagByte b <<< k).getLsbD j = (b && decide (j = k)) := by
  rw [BitVec.getLsbD_shiftLeft, flagByte_bit]
  by_cases h : j = k
  · subst h
    simp [hj]
  · by_cases low : j < k
    · simp [low, h]
    · simp [hj, low, h, show j - k ≠ 0 by omega]

theorem Port.replyWaiting_iff (q : Port) : q.replyWaiting = true ↔ q.filled ≠ [] := by
  simp [Port.replyWaiting]

theorem Port.noticeWaiting_iff (q : Port) : q.noticeWaiting = true ↔ q.notices ≠ [] := by
  simp [Port.noticeWaiting]

theorem statusByte_bits (ready : Bool) (q : Port) :
    (statusByte ready q).getLsbD 7 = ready ∧ (statusByte ready q).getLsbD 6 = q.replyWaiting
      ∧ (statusByte ready q).getLsbD 5 = q.noticeWaiting
      ∧ (statusByte ready q).getLsbD 4 = decide (q.gate = .isOpen) ∧ (statusByte ready q).getLsbD 3 = q.lost
      ∧ (statusByte ready q).getLsbD 2 = decide (q.privilege = .supervisor)
      ∧ (statusByte ready q).getLsbD 1 = decide (q.requests.length = 4) ∧ (statusByte ready q).getLsbD 0 = false := by
  have bit (j : Nat) (hj : j < 8) : (statusByte ready q).getLsbD j
      = (ready && decide (j = 7) || q.replyWaiting && decide (j = 6) || q.noticeWaiting && decide (j = 5)
        || decide (q.gate = .isOpen) && decide (j = 4) || q.lost && decide (j = 3)
        || decide (q.privilege = .supervisor) && decide (j = 2) || decide (q.requests.length = 4) && decide (j = 1)) := by
    simp only [statusByte, BitVec.getLsbD_or, flagByte_shift_bit _ hj, Config.requestDepth]
    rfl
  refine ⟨?_, ?_, ?_, ?_, ?_, ?_, ?_, ?_⟩ <;> rw [bit _ (by decide)] <;> simp

theorem exec_transactionBegin (linked : Linked s p)
    (idle : s.ports[p].transaction = .none ∨ s.ports[p].transaction = .begun) :
    exec (.transactionBegin p) s = .next (s.modifyPort p (beginTransaction s.ready)) :=
  if_pos ⟨State.linked_iff.2 linked, idle⟩

theorem mem_of_submitResult (x : SubmitResult) : (x, x.byte) ∈ ([(.none, 0x00), (.accepted, 0x01), (.notReady, 0x02),
    (.badLength, 0x03), (.badCrc, 0x04), (.tagInUse, 0x05), (.queueFull, 0x06), (.badTransaction, 0x07)]
    : List (SubmitResult × Byte)) := by
  cases x <;> decide

theorem exec_inBegun {c : Instr} {g : Port → Port} (linked : Linked s p) (begun : s.ports[p].transaction = .begun)
    (run : exec c s = .next (s.inBegun p g)) : exec c s = .next (s.modifyPort p g) := by
  rw [run, State.inBegun_of_begun linked begun]

theorem transactionKind_unknown {code : Byte} (submit : code ≠ 0xA1) (fetch : code ≠ 0xA2) (notice : code ≠ 0xA3)
    (peek : code ≠ 0xA4) : transactionKind code = .unknown := by
  rw [transactionKind, if_neg submit, if_neg fetch, if_neg notice, if_neg peek]

/-- Settles O23: each byte and each bit from the definitions. -/
theorem transactionsShowThePort : Obligations.TransactionsShowThePort := by
  refine ⟨fun s p linked idle => ?_, fun s p linked begun => ?_, fun s p code linked begun other => ?_,
    fun p code rest => ⟨rfl, ?_⟩, fun q k => ⟨fun x hx => ?_, fun past => ?_⟩, fun q => ?_⟩
  · obtain ⟨ready, reply, notice, gate, lost, privilege, full, clear⟩ := statusByte_bits s.ready s.ports[p]
    refine ⟨statusByte s.ready s.ports[p], exec_transactionBegin linked idle, ?_, ?_, ?_, ?_, lost, ?_, ?_, clear⟩
    · rw [ready, State.ready_iff]
    · rw [reply, Port.replyWaiting_iff]
    · rw [notice, Port.noticeWaiting_iff]
    · rw [gate, decide_eq_true_iff]
    · rw [privilege, decide_eq_true_iff]
    · rw [full, decide_eq_true_iff]
  · exact ⟨s.ports[p].lastSubmit.byte, exec_inBegun (g := peekPort) linked begun rfl, mem_of_submitResult _⟩
  · simp only [List.mem_cons, List.not_mem_nil, or_false, not_or] at other
    obtain ⟨submit, fetch, notice, peek⟩ := other
    have run : exec (.unknownTransaction p code) s = .next (s.inBegun p unknownPort) := by
      show execUnknownTransaction p code s = _
      rw [execUnknownTransaction, transactionKind_unknown submit fetch notice peek]
    exact exec_inBegun linked begun run
  · by_cases submit : code = 0xA1
    · subst submit; rfl
    by_cases fetch : code = 0xA2
    · subst fetch; rfl
    by_cases notice : code = 0xA3
    · subst notice; rfl
    by_cases peek : code = 0xA4
    · subst peek; rfl
    · rw [if_neg submit, if_neg fetch, if_neg notice, if_neg peek, transactionCommands,
        transactionKind_unknown submit fetch notice peek]
  · rw [Port.driven, List.getD_eq_getElem?_getD, hx]
    rfl
  · rw [Port.driven, List.getD_eq_getElem?_getD, List.getElem?_eq_none past]
    rfl
  · simp [Port.attn, Port.replyWaiting_iff, Port.noticeWaiting_iff]

/-! ### A request in its frame (R161, R163) -/

theorem length_frame (f : RequestFrame) : f.bytes.length = 7 + f.operands.length := by
  simp [RequestFrame.bytes, bytes16]
  omega

theorem frame_length_byte {f : RequestFrame} (h : f.operands.length ≤ 25) :
    (f.bytes.getD 0 0).toNat = 7 + f.operands.length := by
  show (BitVec.ofNat 8 (7 + f.operands.length)).toNat = _
  rw [BitVec.toNat_ofNat]
  omega

theorem frame_lengthGood {f : RequestFrame} (h : f.operands.length ≤ 25) : LengthGood f.bytes := by
  refine ⟨nofun, ?_, ?_, ?_⟩ <;> rw [frame_length_byte h]
  · omega
  · omega
  · exact length_frame f

/-- R163: the last two bytes are the CRC-16 of those before. -/
theorem frame_crcGood (f : RequestFrame) : CrcGood f.bytes := by
  obtain ⟨body, e⟩ : ∃ body, f.bytes = body ++ bytes16 (crc16 body) := ⟨_, rfl⟩
  have len : f.bytes.length - 2 = body.length := by rw [e]; simp [bytes16]
  rw [CrcGood, len, e, List.drop_left, List.take_left]

theorem setWidth_tag (t : Tag) : (t.setWidth 8).setWidth 4 = t := by
  apply BitVec.eq_of_getLsbD_eq
  intro i hi
  simp [hi]

/-- R161: the parts of the frame are those of the request. -/
theorem parseFrame_bytes (f : RequestFrame) : parseFrame f.bytes = f := by
  rw [parseFrame_eq, length_frame]
  have operands : (f.bytes.drop 5).take (7 + f.operands.length - 7) = f.operands := by
    rw [Nat.add_sub_cancel_left]
    show (f.operands ++ bytes16 _).take f.operands.length = _
    exact List.take_left
  have tag : tagOf f.bytes = f.tag := setWidth_tag f.tag
  have key : f.bytes.getD 3 0 ++ f.bytes.getD 4 0 = f.key := half_bytes16 f.key
  rw [operands, tag, key]
  rfl

/-- Settles O25: the frame passes the five checks, and its parts are the request. -/
theorem submittedFrameIsTheRequest : Obligations.SubmittedFrameIsTheRequest := by
  intro s p f few linked running begun tag room
  have parsed := parseFrame_bytes f
  have tagged : tagOf f.bytes = f.tag := setWidth_tag f.tag
  have accepted : judgeSubmit s.ready s.ports[p] f.bytes = .accepted := by
    rw [judgeSubmit_eq, if_neg (not_not_intro running), if_neg (not_not_intro (frame_lengthGood few)),
      if_neg (not_not_intro (frame_crcGood f)), tagged, if_neg tag, if_neg (Nat.not_le.2 room)]
  rw [exec_submit_eq f.bytes linked begun, accepted, State.afterSubmit_accepted, parsed, tagged]

end Sys2Proof.Machine
end

section
/-! PROOFS. The replies and notices that a port sends, byte by byte (O26, O27). -/

namespace Sys2Proof.Machine

variable {s : State} {p : PortId}

/-! ### Codes and flags (R188, R190, R191) -/

theorem portByte_eq (h : Option PortId) : portByte h = absentOr h := by cases h <;> rfl

theorem groupByte_eq (g : Option GroupId) : groupByte g = absentOr g := by cases g <;> rfl

theorem homeBytes_eq (h : Option HomeId) : homeBytes h = homeBlock h := by cases h <;> rfl

theorem flagByte_isSome {α : Type} (x : Option α) : flagByte x.isSome = if x = none then 0x00 else 0x01 := by
  cases x <;> rfl

theorem holdBlock_bytes (b : HoldBlock) : b.bytes = holdBlockBytes b := by
  rw [HoldBlock.bytes, holdBlockBytes, portByte_eq, flagByte_isSome]
  rfl

theorem interest_byte (i : Interest) : InterestByte i i.byte := by
  have all : ∀ a b c : Bool, InterestByte ⟨a, b, c⟩ (Interest.byte ⟨a, b, c⟩) := by decide
  exact all i.value i.holder i.life

theorem status_code (st : Status) : (st, st.byte) ∈ statusCodes := by cases st <;> decide

theorem groupState_codes : ∀ x ∈ groupStateCodes, x.1.byte = x.2.1 ∧ x.1.phaseBytes = [x.2.2.1, x.2.2.2] := by decide

theorem recordState_codes : ∀ x ∈ recordStateCodes, x.1.byte = x.2 := by decide

theorem guard_codes : ∀ x ∈ guardCodes, x.1.byte = x.2 := by decide

theorem waiterBytes_eq (ports : List PortId) : waiterBytes ports = waiterPlaces ports := by
  show [portByte ports[0]?, portByte ports[1]?, portByte ports[2]?] = _
  rw [portByte_eq, portByte_eq, portByte_eq]
  rfl

/-! ### Payloads (R191) -/

theorem censusFlags (a b : Bool) : ((flagByte a ||| (flagByte b <<< 1)).getLsbD 0 = a)
    ∧ (flagByte a ||| (flagByte b <<< 1)).getLsbD 1 = b ∧ (flagByte a ||| (flagByte b <<< 1)).toNat < 4 := by
  revert a b
  decide

theorem groupFlags : ∀ a b c : Bool, (flagByte a ||| (flagByte b <<< 1) ||| (flagByte c <<< 2)).getLsbD 0 = a
    ∧ (flagByte a ||| (flagByte b <<< 1) ||| (flagByte c <<< 2)).getLsbD 1 = b
    ∧ (flagByte a ||| (flagByte b <<< 1) ||| (flagByte c <<< 2)).getLsbD 2 = c
    ∧ (flagByte a ||| (flagByte b <<< 1) ||| (flagByte c <<< 2)).toNat < 8 := by
  decide

theorem watcherBytes_at (w : Vector (Option Interest) 4) (p : PortId) :
    (watcherBytes w).getD p.val 0 = (w[p].map Interest.byte).getD 0 := by
  rw [watcherBytes, List.getD_eq_getElem?_getD, List.getElem?_map, List.getElem?_eq_getElem (by simp)]
  simp only [Vector.getElem_toList, Option.map_some, Option.getD_some, Fin.getElem_fin]
  cases w[p.val] <;> rfl

theorem payloadsLaidOut : PayloadsLaidOut := by
  refine ⟨rfl, homeBytes_eq, fun x hx => by rw [← recordState_codes x hx]; rfl,
    fun x hx => by rw [← guard_codes x hx]; rfl, fun h => by rw [← portByte_eq]; rfl, fun v => rfl, holdBlock_bytes,
    fun h n => ⟨by rw [← portByte_eq]; rfl, by rw [← portByte_eq]; rfl⟩,
    fun i v h n => ⟨i.byte, interest_byte i, by rw [← portByte_eq]; rfl⟩, fun n => rfl, rfl, rfl,
    fun h w x hx => ?_, fun r => rfl, fun g n x hx => ?_, fun r => ?_, fun r y hy state => ?_,
    fun x st hst g hg state guard => ?_⟩
  · rw [← homeBytes_eq, ← (groupState_codes x hx).1]
    rfl
  · rw [← (groupState_codes x hx).1]
    rfl
  · obtain ⟨suspended, pfw, small⟩ := censusFlags r.suspended r.pfw
    exact ⟨_, suspended, pfw, small, rfl⟩
  · obtain ⟨dirty, unpersisted, lost, small⟩ := groupFlags r.dirtyAgain r.unpersisted r.restoreLost
    obtain ⟨code, phases⟩ := groupState_codes y hy
    refine ⟨_, dirty, unpersisted, lost, small, ?_⟩
    rw [← state] at code phases
    rw [← code, show (Payload.groupStatus r).bytes = [byteOf r.group.val, r.state.byte] ++ r.state.phaseBytes
      ++ [flagByte r.captureHeld, bankByte r.current] ++ bytes32 r.wear ++ _ from rfl, phases]
    rcases r.current with _ | _ | _ <;> rfl
  · refine ⟨watcherBytes x.watchers, ?_, by simp [watcherBytes], fun p => ⟨fun e => ?_, fun i e => ?_⟩⟩
    · rw [← recordState_codes st hst, ← guard_codes g hg, ← state, ← guard, ← homeBytes_eq, ← holdBlock_bytes,
        ← waiterBytes_eq]
      rfl
    · rw [watcherBytes_at, e]
      rfl
    · rw [watcherBytes_at, e]
      exact interest_byte i

/-! ### Replies (R167, R191) -/

theorem length_replyFrame (r : Reply) : r.frame.length = 9 + r.payload.bytes.length := by
  simp [Reply.frame, withCrc16, bytes16]
  omega

theorem replyFlags (r : Reply) : r.flagsByte.getLsbD 0 = r.flags.zero ∧ r.flagsByte.getLsbD 1 = r.flags.neg
    ∧ r.flagsByte.getLsbD 2 = r.flags.limit ∧ r.flagsByte.getLsbD 3 = r.flags.prior ∧ r.flagsByte.getLsbD 4 = false
    ∧ r.flagsByte.getLsbD 5 = false ∧ r.flagsByte.getLsbD 6 = false
    ∧ r.flagsByte.getLsbD 7 = r.generation.isSome := by
  have bit (j : Nat) (hj : j < 8) : r.flagsByte.getLsbD j
      = (r.flags.zero && decide (j = 0) || r.flags.neg && decide (j = 1) || r.flags.limit && decide (j = 2)
        || r.flags.prior && decide (j = 3) || r.generation.isSome && decide (j = 7)) := by
    simp only [Reply.flagsByte, BitVec.getLsbD_or, flagByte_shift_bit _ hj, flagByte_bit]
  refine ⟨?_, ?_, ?_, ?_, ?_, ?_, ?_, ?_⟩ <;> rw [bit _ (by decide)] <;> simp

theorem modifyPort_eq (s : State) (p : PortId) (f : Port → Port) :
    s.modifyPort p f = { s with ports := s.ports.set p (f s.ports[p]) } := rfl

/-- Settles O26: what is sent, what its release does, and the layout of every frame. -/
theorem fetchSendsTheOldestReply : Obligations.FetchSendsTheOldestReply := by
  refine ⟨fun s p linked begun => ?_, fun s p n empty => ?_, fun s p n r reply => ⟨fun cut => ?_, fun whole => ?_⟩,
    fun r => ⟨r.status.byte, r.flagsByte, ?_, status_code r.status, replyFlags r⟩, payloadsLaidOut⟩
  · rw [exec_inBegun (g := fetchPort) linked begun rfl, modifyPort_eq, fetchPort]
    cases s.ports[p].filled.head? <;> rfl
  · show Host.Outcome.next (s.modifyPort p (fetchReleasePort n)).engaged = _
    simp only [modifyPort_eq, fetchReleasePort, empty]
  · show Host.Outcome.next (s.modifyPort p (fetchReleasePort n)).engaged = _
    simp only [modifyPort_eq, fetchReleasePort, reply, if_neg (Nat.not_le.2 cut)]
  · show Host.Outcome.next (s.modifyPort p (fetchReleasePort n)).engaged = _
    simp only [modifyPort_eq, fetchReleasePort, reply, if_pos whole]
  · rw [length_replyFrame]
    rfl

/-! ### Notices (R89 to R91, R192) -/

theorem length_noticeFrame (n : Notice) : n.frame.length = 14 := by cases n <;> rfl

theorem recordKinds_bits (k : RecordKinds) : k.byte.getLsbD 0 = k.value ∧ k.byte.getLsbD 1 = k.holder
    ∧ k.byte.getLsbD 2 = k.retiring ∧ k.byte.getLsbD 3 = k.retired ∧ k.byte.getLsbD 4 = k.leaseLost
    ∧ k.byte.getLsbD 5 = false ∧ k.byte.getLsbD 6 = false ∧ k.byte.getLsbD 7 = false := by
  have bit (j : Nat) (hj : j < 8) : k.byte.getLsbD j
      = (k.value && decide (j = 0) || k.holder && decide (j = 1) || k.retiring && decide (j = 2)
        || k.retired && decide (j = 3) || k.leaseLost && decide (j = 4)) := by
    simp only [RecordKinds.byte, BitVec.getLsbD_or, flagByte_shift_bit _ hj, flagByte_bit]
  refine ⟨?_, ?_, ?_, ?_, ?_, ?_, ?_, ?_⟩ <;> rw [bit _ (by decide)] <;> simp

theorem deviceKinds_bits (k : DeviceKinds) : k.byte.getLsbD 0 = k.storeFault ∧ k.byte.getLsbD 1 = k.storeWorn
    ∧ k.byte.getLsbD 2 = k.powerWarn ∧ k.byte.getLsbD 3 = k.restoreLost ∧ k.byte.getLsbD 4 = false
    ∧ k.byte.getLsbD 5 = false ∧ k.byte.getLsbD 6 = false ∧ k.byte.getLsbD 7 = false := by
  have bit (j : Nat) (hj : j < 8) : k.byte.getLsbD j
      = (k.storeFault && decide (j = 0) || k.storeWorn && decide (j = 1) || k.powerWarn && decide (j = 2)
        || k.restoreLost && decide (j = 3)) := by
    simp only [DeviceKinds.byte, BitVec.getLsbD_or, flagByte_shift_bit _ hj, flagByte_bit]
  refine ⟨?_, ?_, ?_, ?_, ?_, ?_, ?_, ?_⟩ <;> rw [bit _ (by decide)] <;> simp

/-- Settles O27: what is taken, how its release settles it, and the layout of the frames. -/
theorem fetchNoticeTakesAndSettles : Obligations.FetchNoticeTakesAndSettles := by
  refine ⟨fun s p n rest linked begun notices => ?_, fun s p linked begun empty => ?_,
    fun s p k n evicted notice held => ?_, fun s p k marker => ?_, fun key kinds v gen h => ⟨kinds.byte, ?_, ?_⟩,
    fun kinds g => ⟨kinds.byte, ?_, ?_⟩⟩
  · rw [exec_inBegun (g := fetchNoticePort) linked begun rfl, modifyPort_eq]
    simp only [fetchNoticePort, notices]
  · rw [exec_inBegun (g := fetchNoticePort) linked begun rfl, modifyPort_eq]
    simp only [fetchNoticePort, empty]
    rfl
  · show Host.Outcome.next (s.modifyPort p (fetchNoticeReleasePort k)) = _
    simp only [modifyPort_eq, fetchNoticeReleasePort, notice, held, length_noticeFrame]
    by_cases h : 14 ≤ k ∨ evicted = true
    · rw [if_pos h, if_pos h]
    · rw [if_neg h, if_neg h]
      rfl
  · show Host.Outcome.next (s.modifyPort p (fetchNoticeReleasePort k)) = _
    simp only [modifyPort_eq, fetchNoticeReleasePort, marker]
    have length : (emptyMarker s.ports[p].lost).length = 5 := rfl
    rw [length]
    by_cases h : 5 ≤ k ∧ (!s.ports[p].lostSince) = true
    · obtain ⟨whole, kept⟩ := h
      rw [if_pos ⟨whole, kept⟩, decide_eq_false (Nat.not_lt.2 whole), show s.ports[p].lostSince = false by simpa using kept, Bool.or_false,
        Bool.and_false]
    · have stays : (decide (k < 5) || s.ports[p].lostSince) = true := by
        simp only [Bool.not_eq_true', not_and, Bool.not_eq_false] at h
        by_cases cut : k < 5
        · rw [decide_eq_true cut, Bool.true_or]
        · rw [h (Nat.not_lt.1 cut), Bool.or_true]
      rw [if_neg h, stays, Bool.and_true]
  · rw [← portByte_eq]
    rfl
  · exact recordKinds_bits kinds
  · rw [← groupByte_eq]
    rfl
  · exact deviceKinds_bits kinds

end Sys2Proof.Machine
end

section
/-! PROOFS. The commit events (O59): the homes that they settle and the parked SYNCs that they answer. -/

namespace Sys2Proof.Machine

variable {s t : State} {g : GroupId} {st : Status} {ws : List ParkedSync} {rs : List Reply}

/-! ### Parked SYNCs that are answered (R126, R129, R135) -/

theorem State.lookup_of_eqs (hi : t.index = s.index) (hs : t.slots = s.slots) (k : Key) : t.lookup k = s.lookup k := by
  unfold State.lookup
  rw [hi, hs]

/-- R135: the port after one parked SYNC has ended. -/
theorem State.unpark_fill (s : State) (p : PortId) (r : Reply) :
    (s.unpark p).fill p r = { s with ports := s.ports.set p (s.ports[p].ended r) } := by
  simp only [State.fill, State.unpark, State.modifyPort, Port.ended, Vector.set_set]
  rw [vector_set_at, if_pos rfl]

/-- R133: the home of the record that stands under the key in the group. -/
theorem State.syncHome_eq {key : Key} {i : Slot} {r : Record} (found : s.lookup key = some (i, r))
    (here : r.home.map HomeId.group = some g) : s.syncHome g key = r.home := by
  simp only [State.syncHome, found, if_pos here]

theorem SyncReplies.congr (h : SyncReplies t g st ws rs) (hi : t.index = s.index) (hs : t.slots = s.slots)
    (hg : t.groups[g].state = s.groups[g].state ∧ t.groups[g].wear = s.groups[g].wear) :
    SyncReplies s g st ws rs := by
  refine List.Forall₂.imp (fun w r ⟨h, e, home⟩ => ⟨h, by rw [← hg.1, ← hg.2]; exact e, fun i x found => ?_⟩) h
  exact home i x ((State.lookup_of_eqs hi hs _).trans found)

/-- R135: the SYNCs of a list, one after another. -/
theorem State.fillSyncs_eq (s : State) (g : GroupId) (ws : List ParkedSync) (st : Status) :
    ∃ (rs : List Reply) (n : Nat), SyncReplies s g st ws rs
      ∧ s.fillSyncs g ws st = { s with ports := syncsEnded s.ports ws rs, fresh := n } := by
  induction ws generalizing s with
  | nil => exact ⟨[], s.fresh, .nil, rfl⟩
  | cons w rest ih =>
    have one : s.fillSync g w st = { s with
        ports := s.ports.set w.port (s.ports[w.port].ended
          ⟨w.tag, syncCode, st, noFlags, none, s.syncPayload g (s.syncHome g w.key)⟩)
        fresh := s.fresh + 1 } := by
      rw [State.fillSync, State.unpark_fill]
    obtain ⟨rs, n, replies, all⟩ := ih (s.fillSync g w st)
    refine ⟨_ :: rs, n, .cons ⟨s.syncHome g w.key, rfl, fun i x found here => State.syncHome_eq found here⟩
      (replies.congr (by rw [one]) (by rw [one]) (by rw [one]; exact ⟨rfl, rfl⟩)), ?_⟩
    rw [State.fillSyncs, all, one]
    rfl

theorem State.answerSyncs_eq (s : State) (g : GroupId) (which : ParkedSync → Bool) (st : Status) :
    ∃ (rs : List Reply) (n : Nat), SyncReplies s g st (s.groups[g].syncs.filter which) rs
      ∧ s.answerSyncs g which st = { s with
        groups := s.groups.set g { s.groups[g] with syncs := s.groups[g].syncs.filter fun w => !which w }
        ports := syncsEnded s.ports (s.groups[g].syncs.filter which) rs, fresh := n } := by
  obtain ⟨rs, n, replies, all⟩ := State.fillSyncs_eq
    (s.setGroup g { s.groups[g] with syncs := s.groups[g].syncs.filter fun w => !which w }) g
    (s.groups[g].syncs.filter which) st
  have record : (s.setGroup g { s.groups[g] with
      syncs := s.groups[g].syncs.filter fun w => !which w }).groups[g]
      = { s.groups[g] with syncs := s.groups[g].syncs.filter fun w => !which w } :=
    (vector_set_at _ _ _ _).trans (if_pos rfl)
  exact ⟨rs, n, replies.congr rfl rfl (by rw [record]; exact ⟨rfl, rfl⟩), all⟩

theorem State.answerAllSyncs_eq (s : State) (g : GroupId) (st : Status) :
    ∃ (rs : List Reply) (n : Nat), SyncReplies s g st s.groups[g].syncs rs
      ∧ s.answerSyncs g (fun _ => true) st = { s with
        groups := s.groups.set g { s.groups[g] with syncs := [] }
        ports := syncsEnded s.ports s.groups[g].syncs rs, fresh := n } := by
  obtain ⟨rs, n, replies, all⟩ := s.answerSyncs_eq g (fun _ => true) st
  rw [List.filter_true] at replies all
  exact ⟨rs, n, replies, by rw [all]; simp⟩

/-! ### Homes that are settled (R100) -/

theorem settleRow_settled (s : State) (g : GroupId) (noted : List (Fin 16)) :
    settleRow s.homeMap[g] noted = s.settled g noted := vector_ext fun h => by
  rw [settleRow_at, State.settled]
  have home : s.homeMap[g][h] = s.home ⟨g, h⟩ := rfl
  rw [home]
  simp only [Fin.getElem_fin, Vector.getElem_ofFn, Fin.eta]
  cases s.home ⟨g, h⟩ <;> simp [settleHome]

theorem exec_commitEvent {noted : List (Fin 16)} (h : Serves s (.event (.committed g noted))) :
    exec .commitEvent s = .next (s.commitGroup g noted).finish := by
  show execCommitEvent s = _
  simp only [execCommitEvent, State.event_iff.2 h]

theorem exec_commitEventFaulted (h : Serves s (.event (.faulted g))) : exec .commitEventFaulted s =
    .next ((s.answerSyncs g (fun _ => true) .storeFault).deviceNotice kindStoreFault (some g)).finish := by
  show execCommitEventFaulted s = _
  simp only [execCommitEventFaulted, State.event_iff.2 h]

/-- Settles O59: the captured SYNCs, then those of a WORN group that are left; or every SYNC of a FAULTED one. -/
theorem commitEventsAnswerTheSyncs : Obligations.CommitEventsAnswerTheSyncs := by
  refine ⟨fun s g noted event => ?_, fun s g event => ?_⟩
  · obtain ⟨rs, n, done, first⟩ := (s.settleHomes g noted).answerSyncs_eq g ParkedSync.captured .synced
    have settled : s.settleHomes g noted = { s with homeMap := s.homeMap.set g (s.settled g noted) } := by
      rw [State.settleHomes, settleRow_settled]
    rw [settled] at done first
    have replies : SyncReplies s g .synced (s.groups[g].syncs.filter ParkedSync.captured) rs :=
      done.congr rfl rfl ⟨rfl, rfl⟩
    set v : State := { s with
      homeMap := s.homeMap.set g (s.settled g noted)
      groups := s.groups.set g { s.groups[g] with syncs := s.groups[g].syncs.filter fun w => !w.captured }
      ports := syncsEnded s.ports (s.groups[g].syncs.filter ParkedSync.captured) rs, fresh := n } with hv
    have record : v.groups[g] = { s.groups[g] with syncs := s.groups[g].syncs.filter fun w => !w.captured } :=
      (vector_set_at _ _ _ _).trans (if_pos rfl)
    have run : exec .commitEvent s = .next (v.settleWorn g).finish := by
      rw [exec_commitEvent event, State.commitGroup, settled, first]
    refine ⟨fun state => ⟨rs, n, replies, ?_⟩, fun state => ?_⟩
    · rw [run, State.settleWorn, if_neg (by rw [record]; exact state)]
    · obtain ⟨rs', n', rest, second⟩ := v.answerAllSyncs_eq g .storeWorn
      rw [record] at rest second
      refine ⟨rs, rs', n', replies, rest.congr rfl rfl (by rw [record]; exact ⟨rfl, rfl⟩), ?_⟩
      have groups : v.groups.set g { s.groups[g] with syncs := [] }
          = s.groups.set g { s.groups[g] with syncs := [] } := Vector.set_set ..
      rw [run, State.settleWorn, if_pos (by rw [record]; exact state), second, State.deviceNotice_eq, groups]
      rfl
  · obtain ⟨rs, n, replies, all⟩ := s.answerAllSyncs_eq g .storeFault
    refine ⟨rs, n, replies, ?_⟩
    rw [exec_commitEventFaulted event, all, State.deviceNotice_eq]
    rfl

end Sys2Proof.Machine
end

section
/-! SUPPORT. The parked requests of a port, counted: the tags of its parked claims and SYNCs, its parked count and its
reserved reply entries (R43, R50, R134, R146). -/

namespace Sys2Proof.Machine

variable {s t u : State} {i : Slot} {g : GroupId} {p q : PortId} {r : Record} {w : ParkedClaim} {f : RequestFrame}

/-! ### Sums over slots and groups -/

/-- One place of a vector set to another value, in a sum over the vector. -/
theorem sum_set {α M : Type} {n : Nat} [AddCommMonoid M] (v : Vector α n) (i : Fin n) (x : α) (f : α → M) :
    (∑ j : Fin n, f (v.set i x)[j]) + f v[i] = (∑ j : Fin n, f v[j]) + f x := by
  have other : ∑ j ∈ Finset.univ.erase i, f (v.set i x)[j] = ∑ j ∈ Finset.univ.erase i, f v[j] :=
    Finset.sum_congr rfl fun j hj => by rw [vector_set_at, if_neg (Ne.symm (Finset.ne_of_mem_erase hj))]
  have self : f (v.set i x)[i] = f x := by rw [vector_set_at, if_pos rfl]
  rw [← Finset.add_sum_erase _ (fun j => f (v.set i x)[j]) (Finset.mem_univ i),
    ← Finset.add_sum_erase _ (fun j => f v[j]) (Finset.mem_univ i), other, self]
  abel

theorem coe_flatMap {α β : Type} (l : List α) (f : α → List β) :
    ((l.flatMap f : List β) : Multiset β) = (l.map fun a => (f a : Multiset β)).sum := by
  induction l with
  | nil => rfl
  | cons a l ih => rw [List.flatMap_cons, ← Multiset.coe_add, ih, List.map_cons, List.sum_cons]

theorem coe_flatMap_finRange {β : Type} {n : Nat} (f : Fin n → List β) :
    (((List.finRange n).flatMap f : List β) : Multiset β) = ∑ i, (f i : Multiset β) := by
  rw [coe_flatMap, Fin.sum_univ_def]

/-! ### The tags of parked requests -/

/-- The tags of a port's claims in a waiter list. -/
def tagsOfClaims (ws : List ParkedClaim) (p : PortId) : Multiset Tag :=
  ((ws : Multiset ParkedClaim).filter fun w => w.port = p).map ParkedClaim.tag

/-- The tags of a port's SYNCs in a list of parked SYNCs. -/
def tagsOfSyncs (ws : List ParkedSync) (p : PortId) : Multiset Tag :=
  ((ws : Multiset ParkedSync).filter fun w => w.port = p).map ParkedSync.tag

/-- The claims parked on the record of a slot. -/
def Record.waiting? (x : Option Record) : List ParkedClaim := (x.map Record.waiters).getD []

/-- The tags of a port's parked requests, in no order. -/
def State.bag (s : State) (p : PortId) : Multiset Tag :=
  (∑ i : Slot, tagsOfClaims (Record.waiting? s.slots[i]) p) + ∑ g : GroupId, tagsOfSyncs s.groups[g].syncs p

theorem State.coe_syncTags (s : State) (p : PortId) :
    (s.syncTags p : Multiset Tag) = ∑ g : GroupId, tagsOfSyncs s.groups[g].syncs p := by
  rw [State.syncTags, coe_flatMap_finRange]
  exact Finset.sum_congr rfl fun g _ => rfl

/-- The tags of a port's claims on the record of a slot. -/
def claimTags (x : Option Record) (p : PortId) : List Tag :=
  (x.map fun r => (r.waiters.filter fun w => decide (w.port = p)).map ParkedClaim.tag).getD []

theorem coe_claimTags (x : Option Record) (p : PortId) :
    (claimTags x p : Multiset Tag) = tagsOfClaims (Record.waiting? x) p := by
  cases x <;> rfl

theorem State.coe_parkedTags (s : State) (p : PortId) : (s.parkedTags p : Multiset Tag) = s.bag p := by
  have claims := coe_flatMap_finRange fun i : Slot => claimTags s.slots[i] p
  calc (s.parkedTags p : Multiset Tag)
      = (((List.finRange 512).flatMap fun i : Slot => claimTags s.slots[i] p : List Tag) : Multiset Tag)
          + (s.syncTags p : Multiset Tag) := (Multiset.coe_add _ _).symm
    _ = (∑ i : Slot, (claimTags s.slots[i] p : Multiset Tag)) + (s.syncTags p : Multiset Tag) :=
        congrArg (· + _) claims
    _ = s.bag p := by
        unfold State.bag
        rw [State.coe_syncTags]
        simp only [coe_claimTags]

theorem tagsOfClaims_nil (p : PortId) : tagsOfClaims [] p = 0 := rfl

theorem tagsOfClaims_cons (w : ParkedClaim) (ws : List ParkedClaim) (p : PortId) :
    tagsOfClaims (w :: ws) p = (if w.port = p then {w.tag} else 0) + tagsOfClaims ws p := by
  unfold tagsOfClaims
  rw [← Multiset.cons_coe, Multiset.filter_cons, Multiset.map_add]
  split <;> rfl

theorem tagsOfClaims_append (ws xs : List ParkedClaim) (p : PortId) :
    tagsOfClaims (ws ++ xs) p = tagsOfClaims ws p + tagsOfClaims xs p := by
  unfold tagsOfClaims
  rw [← Multiset.coe_add, Multiset.filter_add, Multiset.map_add]

theorem tagsOfClaims_erase {ws : List ParkedClaim} (h : w ∈ ws) (p : PortId) :
    tagsOfClaims ws p = (if w.port = p then {w.tag} else 0) + tagsOfClaims (ws.erase w) p := by
  rw [← tagsOfClaims_cons]
  unfold tagsOfClaims
  rw [Multiset.coe_eq_coe.2 (List.perm_cons_erase h)]

theorem tagsOfClaims_none {ws : List ParkedClaim} (h : ∀ w ∈ ws, w.port ≠ p) : tagsOfClaims ws p = 0 := by
  unfold tagsOfClaims
  rw [Multiset.filter_eq_nil.2 fun w hw => h w hw]
  rfl

theorem tagsOfSyncs_cons (w : ParkedSync) (ws : List ParkedSync) (p : PortId) :
    tagsOfSyncs (w :: ws) p = (if w.port = p then {w.tag} else 0) + tagsOfSyncs ws p := by
  unfold tagsOfSyncs
  rw [← Multiset.cons_coe, Multiset.filter_cons, Multiset.map_add]
  split <;> rfl

theorem tagsOfSyncs_append (ws xs : List ParkedSync) (p : PortId) :
    tagsOfSyncs (ws ++ xs) p = tagsOfSyncs ws p + tagsOfSyncs xs p := by
  unfold tagsOfSyncs
  rw [← Multiset.coe_add, Multiset.filter_add, Multiset.map_add]

/-- The SYNCs that a choice picks, and those that it leaves. -/
theorem tagsOfSyncs_split (ws : List ParkedSync) (which : ParkedSync → Bool) (p : PortId) :
    tagsOfSyncs ws p = tagsOfSyncs (ws.filter which) p + tagsOfSyncs (ws.filter fun w => !which w) p := by
  induction ws with
  | nil => rfl
  | cons w ws ih =>
    rw [tagsOfSyncs_cons, ih, List.filter_cons, List.filter_cons]
    cases which w
    · simp only [Bool.false_eq_true, if_false, Bool.not_false, if_true]
      rw [tagsOfSyncs_cons]
      abel
    · simp only [Bool.not_true, Bool.false_eq_true, if_false, if_true]
      rw [tagsOfSyncs_cons]
      abel

/-- The port and the tag of a SYNC are all that counts. -/
theorem tagsOfSyncs_map {h : ParkedSync → ParkedSync} (port : ∀ w, (h w).port = w.port) (tag : ∀ w, (h w).tag = w.tag)
    (ws : List ParkedSync) (p : PortId) : tagsOfSyncs (ws.map h) p = tagsOfSyncs ws p := by
  induction ws with
  | nil => rfl
  | cons w ws ih => rw [List.map_cons, tagsOfSyncs_cons, tagsOfSyncs_cons, ih, port, tag]

/-! ### How the tags change -/

/-- The waiter list of every slot and the SYNCs of every group as they were. -/
theorem State.bag_congr (hs : ∀ i : Slot, Record.waiting? t.slots[i] = Record.waiting? s.slots[i])
    (hg : ∀ g : GroupId, tagsOfSyncs t.groups[g].syncs p = tagsOfSyncs s.groups[g].syncs p) : t.bag p = s.bag p := by
  unfold State.bag
  simp only [hs, hg]

theorem State.bag_setSlot {x : Option Record} (ht : t.slots = s.slots.set i x)
    (hg : ∀ g : GroupId, t.groups[g].syncs = s.groups[g].syncs) :
    t.bag p + tagsOfClaims (Record.waiting? s.slots[i]) p = s.bag p + tagsOfClaims (Record.waiting? x) p := by
  have sum := sum_set s.slots i x fun y => tagsOfClaims (Record.waiting? y) p
  unfold State.bag
  simp only [ht, hg]
  rw [add_right_comm, sum]
  abel

theorem State.bag_setGroup {x : Group} {ws : List ParkedSync}
    (ht : ∀ i : Slot, Record.waiting? t.slots[i] = Record.waiting? s.slots[i]) (hg : t.groups = s.groups.set g x)
    (hw : x.syncs = ws) : t.bag p + tagsOfSyncs s.groups[g].syncs p = s.bag p + tagsOfSyncs ws p := by
  subst hw
  have sum := sum_set s.groups g x fun y => tagsOfSyncs y.syncs p
  unfold State.bag
  simp only [ht, hg]
  rw [add_assoc, sum, ← add_assoc]

/-- A record changed but for its waiters. -/
theorem State.bag_sameWaiters {r' : Record} (hr : s.slots[i] = some r) (hw : r'.waiters = r.waiters)
    (ht : t.slots = s.slots.set i (some r')) (hg : ∀ g : GroupId, t.groups[g].syncs = s.groups[g].syncs)
    (p : PortId) : t.bag p = s.bag p := by
  have sum := State.bag_setSlot (p := p) ht hg
  rw [hr] at sum
  have same : Record.waiting? (some r') = Record.waiting? (some r) := hw
  rw [same] at sum
  exact add_right_cancel sum

/-! ### Parked count and reserved entries -/

/-- The tags of parked requests that have left their lists and whose ends are still to be told, `owed`, and that of the
request in progress, `own`, with the parked requests: their number is the port's parked count, and they are its reserved
entries, unless PRST# has freed these and the eviction is still to end, `E`. -/
structure Accounts (s : State) (E : PortId → Prop) (owed own : PortId → Multiset Tag) : Prop where
  count : ∀ p : PortId, s.ports[p].parked = (s.bag p + owed p).card
  cleared : ∀ p : PortId, E p → s.ports[p].reserved = []
  entries : ∀ p : PortId, ¬ E p → (s.ports[p].reserved : Multiset Tag) = s.bag p + owed p + own p

variable {E : PortId → Prop} {owed owed' own : PortId → Multiset Tag}

/-- The ports' parked counts and reserved entries as they were. -/
def SameWork (s t : State) : Prop :=
  ∀ p : PortId, t.ports[p].parked = s.ports[p].parked ∧ t.ports[p].reserved = s.ports[p].reserved

theorem SameWork.of_ports (h : t.ports = s.ports) : SameWork s t := fun p => by rw [h]; exact ⟨rfl, rfl⟩

theorem SameWork.trans (h : SameWork s t) (h' : SameWork t u) : SameWork s u := fun p =>
  ⟨(h' p).1.trans (h p).1, (h' p).2.trans (h p).2⟩

theorem Accounts.move (h : Accounts s E owed own) (work : SameWork s t)
    (bag : ∀ p, t.bag p + owed' p = s.bag p + owed p) : Accounts t E owed' own where
  count p := by rw [(work p).1, h.count, bag]
  cleared p e := by rw [(work p).2, h.cleared p e]
  entries p e := by rw [(work p).2, h.entries p e, bag]

theorem Accounts.same (h : Accounts s E owed own) (work : SameWork s t) (bag : ∀ p, t.bag p = s.bag p) :
    Accounts t E owed own := h.move work fun p => by rw [bag]

/-- A tag for one port alone. -/
def single (q : PortId) (tag : Tag) (p : PortId) : Multiset Tag := if q = p then {tag} else 0

theorem single_self (q : PortId) (tag : Tag) : single q tag q = {tag} := if_pos rfl

theorem single_other (h : q ≠ p) (tag : Tag) : single q tag p = 0 := if_neg h

theorem Port.fill_reserved (x : Port) (r : Reply) :
    ((x.fill r).reserved : Multiset Tag) = (x.reserved : Multiset Tag).erase r.tag := by
  unfold Port.fill
  rw [Multiset.coe_erase]
  split
  · rfl
  · rw [List.erase_of_not_mem ‹_›]

theorem Port.fill_parked (x : Port) (r : Reply) : (x.fill r).parked = x.parked := by
  unfold Port.fill
  split <;> rfl

/-- R52, R135: a parked request has ended with its reply. -/
theorem Accounts.ended (h : Accounts s E owed own) {r : Reply} (ht : t.ports = s.ports.set q (s.ports[q].ended r))
    (bag : ∀ p, t.bag p = s.bag p) (owes : ∀ p, owed p = single q r.tag p + owed' p) : Accounts t E owed' own := by
  have port (p : PortId) : t.ports[p] = if q = p then s.ports[q].ended r else s.ports[p] := by
    rw [ht, vector_set_at]
  refine ⟨fun p => ?_, fun p e => ?_, fun p e => ?_⟩
  · have count := h.count p
    rw [owes] at count
    rw [port, bag]
    split
    · subst p
      rw [single_self] at count
      show (Port.fill _ r).parked = _
      rw [Port.fill_parked]
      show s.ports[q].parked - 1 = _
      rw [count]
      simp
    · rename_i ne
      rw [count, single_other ne, zero_add]
  · have none := h.cleared p e
    rw [port]
    split
    · subst p
      have entry : r.tag ∉ ({ s.ports[q] with parked := s.ports[q].parked - 1 } : Port).reserved := by
        show r.tag ∉ s.ports[q].reserved
        rw [none]
        exact List.not_mem_nil
      rw [Port.ended, Port.fill, if_neg entry]
      exact none
    · exact none
  · have entries := h.entries p e
    rw [owes] at entries
    rw [port, bag]
    split
    · subst p
      rw [single_self] at entries
      show ((Port.fill _ r).reserved : Multiset Tag) = _
      rw [Port.fill_reserved]
      show (s.ports[q].reserved : Multiset Tag).erase r.tag = _
      rw [entries, show s.bag q + ({r.tag} + owed' q) + own q = r.tag ::ₘ (s.bag q + owed' q + own q) by
        rw [← Multiset.singleton_add]; abel, Multiset.erase_cons_head]
    · rename_i ne
      rw [entries, single_other ne, zero_add]

/-- R180: a parked request of a port whose entries PRST# has freed has ended without a reply. -/
theorem Accounts.unparked (h : Accounts s E owed own) {tag : Tag} (e : E q)
    (ht : t.ports = s.ports.set q { s.ports[q] with parked := s.ports[q].parked - 1 })
    (bag : ∀ p, t.bag p = s.bag p) (owes : ∀ p, owed p = single q tag p + owed' p) : Accounts t E owed' own := by
  have port (p : PortId) : t.ports[p] = if q = p then { s.ports[q] with parked := s.ports[q].parked - 1 }
      else s.ports[p] := by
    rw [ht, vector_set_at]
  refine ⟨fun p => ?_, fun p e => ?_, fun p e' => ?_⟩
  · have count := h.count p
    rw [owes] at count
    rw [port, bag]
    split
    · subst p
      rw [single_self] at count
      show s.ports[q].parked - 1 = _
      rw [count]
      simp
    · rename_i ne
      rw [count, single_other ne, zero_add]
  · rw [port]
    split
    · subst p; exact h.cleared q e
    · exact h.cleared p e
  · have ne : q ≠ p := fun x => e' (x ▸ e)
    rw [port, if_neg ne, bag, h.entries p e', owes, single_other ne, zero_add]

/-- R147: the request in progress is answered. -/
theorem Accounts.answer (h : Accounts s E owed (single p f.tag)) (a : Answer) :
    Accounts (s.answer p f a) E owed 0 := by
  have port (q : PortId) : (s.answer p f a).ports[q] = if p = q then s.ports[p].answered f a else s.ports[q] :=
    vector_set_at _ _ _ _
  have bag (q : PortId) : (s.answer p f a).bag q = s.bag q := State.bag_congr (fun i => by simp) fun g => by simp
  refine ⟨fun q => ?_, fun q e => ?_, fun q e => ?_⟩
  · rw [port, bag, ← h.count]
    split
    · subst q; exact Port.fill_parked _ _
    · rfl
  · have none := h.cleared q e
    rw [port]
    split
    · subst q
      rw [Port.answered_discarded (by rw [none]; exact List.not_mem_nil)]
      exact none
    · exact none
  · have entries := h.entries q e
    rw [port, bag]
    split
    · subst q
      rw [single_self] at entries
      show ((Port.fill _ _).reserved : Multiset Tag) = _
      rw [Port.fill_reserved, entries, add_comm, Multiset.singleton_add, Multiset.erase_cons_head]
      exact (add_zero _).symm
    · rename_i ne
      rw [entries, single_other ne]
      rfl

end Sys2Proof.Machine
end

section
/-! SUPPORT. What an item makes of parked counts, reserved entries and parked requests, said once. -/

namespace Sys2Proof.Machine

variable {s t u : State} {i : Slot} {g : GroupId} {p q : PortId} {r : Record} {w : ParkedClaim} {f : RequestFrame}
  {E : PortId → Prop} {owed owed' own : PortId → Multiset Tag}

/-! ### What leaves parked counts, reserved entries and SYNCs as they were -/

/-- Parked counts, reserved entries and parked SYNCs as they were. -/
def Calm (s t : State) : Prop := SameWork s t ∧ ∀ g : GroupId, t.groups[g].syncs = s.groups[g].syncs

theorem Calm.of_eqs (hp : t.ports = s.ports) (hg : t.groups = s.groups) : Calm s t :=
  ⟨.of_ports hp, fun g => by rw [hg]⟩

theorem Calm.trans (h : Calm s t) (h' : Calm t u) : Calm s u :=
  ⟨h.1.trans h'.1, fun g => (h'.2 g).trans (h.2 g)⟩

theorem Calm.congr (h : Calm s t) (hp : u.ports = t.ports) (hg : u.groups = t.groups) : Calm s u :=
  h.trans (.of_eqs hp hg)

theorem Port.handNotice_parked (q : Port) (n : Notice) :
    (q.handNotice n).parked = q.parked ∧ (q.handNotice n).reserved = q.reserved := by
  refine ⟨?_, (q.handNotice_work n).1⟩
  unfold Port.handNotice
  split
  · rfl
  · split <;> rfl

theorem SameWork.mapPorts {h : PortId → Port → Port}
    (quiet : ∀ p q, (h p q).parked = q.parked ∧ (h p q).reserved = q.reserved) : SameWork s (s.mapPorts h)
  | 0 => quiet 0 _
  | 1 => quiet 1 _
  | 2 => quiet 2 _
  | 3 => quiet 3 _

theorem SameWork.setPort {x : Port} (quiet : x.parked = s.ports[q].parked ∧ x.reserved = s.ports[q].reserved)
    (ht : t.ports = s.ports.set q x) : SameWork s t := fun p => by
  rw [ht, vector_set_at]
  split
  · subst p; exact quiet
  · exact ⟨rfl, rfl⟩

theorem Calm.notifyWatchers (s : State) (w : Vector (Option Interest) 4) (wants : Interest → Bool) (n : Notice) :
    Calm s (s.notifyWatchers w wants n) :=
  ⟨.mapPorts fun p q => by split; exacts [q.handNotice_parked n, ⟨rfl, rfl⟩], fun g => by simp⟩

theorem Calm.deviceNotice (s : State) (kinds : DeviceKinds) (x : Option GroupId) : Calm s (s.deviceNotice kinds x) :=
  ⟨.mapPorts fun p q => by split; exacts [q.handNotice_parked _, ⟨rfl, rfl⟩], fun g => by simp⟩

theorem Calm.giveNotice (s : State) (q : PortId) (n : Notice) : Calm s (s.giveNotice q n) :=
  ⟨.setPort (s.ports[q].handNotice_parked n) rfl, fun g => by simp⟩

theorem Calm.dropWatches (s : State) (w : Vector (Option Interest) 4) : Calm s (s.dropWatches w) :=
  ⟨.mapPorts fun p q => by split <;> exact ⟨rfl, rfl⟩, fun g => by simp⟩

theorem Calm.notifyHolder (s : State) (i : Slot) : Calm s (s.notifyHolder i) := by
  unfold State.notifyHolder
  split
  · exact .of_eqs rfl rfl
  · exact .notifyWatchers s _ _ _

theorem Group.dirtied_syncs (x : Group) : x.dirtied.syncs = x.syncs := by
  unfold Group.dirtied
  split <;> rfl

theorem Calm.setGroup {x : Group} (hx : x.syncs = s.groups[g].syncs) (hp : t.ports = s.ports)
    (hg : t.groups = s.groups.set g x) : Calm s t :=
  ⟨.of_ports hp, fun g' => by
    rw [hg, vector_set_at]
    split
    · subst g'; exact hx
    · rfl⟩

theorem Calm.dirtyMark (s : State) (h : HomeId) : Calm s (s.dirtyMark h.group) := by
  rw [State.dirtyMark_eq]
  exact .setGroup (Group.dirtied_syncs _) rfl rfl

theorem Calm.dirtyMarkOf (s : State) (r : Record) : Calm s (s.dirtyMarkOf r) := by
  unfold State.dirtyMarkOf
  split
  · exact .of_eqs rfl rfl
  · exact .dirtyMark s _

theorem Calm.vacated (s : State) (r : Record) : Calm s (s.vacated r) := by
  rw [← State.vacateHome_eq]
  unfold State.vacateHome
  split
  · exact .of_eqs rfl rfl
  · exact (Calm.of_eqs (by simp) (by simp)).trans (.dirtyMark _ _)

theorem handed_work (ports : Vector Port 4) (w : Vector (Option Interest) 4) (wants : Interest → Bool) (n : Notice)
    (q : PortId) : (handed ports w wants n)[q].parked = ports[q].parked
      ∧ (handed ports w wants n)[q].reserved = ports[q].reserved := by
  have port : (handed ports w wants n)[q] = if w[q].any wants then ports[q].handNotice n else ports[q] :=
    Vector.getElem_ofFn _
  rw [port]
  split
  · exact Port.handNotice_parked _ n
  · exact ⟨rfl, rfl⟩

theorem removedPorts_work (ports : Vector Port 4) (r : Record) (q : PortId) :
    (removedPorts ports r)[q].parked = ports[q].parked ∧ (removedPorts ports r)[q].reserved = ports[q].reserved := by
  have told := handed_work ports r.watchers Interest.life
    (.record r.key ⟨false, false, false, true, false⟩ r.value r.generation none) q
  rw [removedPorts]
  rw [show ∀ h : PortId → Port, (Vector.ofFn h)[q] = h q from fun h => Vector.getElem_ofFn _]
  split <;> exact told

theorem State.remove_none (h : s.slots[i] = none) : s.remove i = s := by
  rw [State.remove, h]

theorem Calm.removed (s : State) (i : Slot) (r : Record) : Calm s (s.removed i r) :=
  ⟨removedPorts_work s.ports r, (Calm.vacated s r).2⟩

theorem Calm.remove (s : State) (i : Slot) : Calm s (s.remove i) := by
  cases hr : s.slots[i] with
  | none => rw [State.remove_none hr]; exact .of_eqs rfl rfl
  | some r => rw [State.remove_eq hr]; exact .removed s i r

theorem Calm.changed (s : State) (i : Slot) (x : Option Record) (w : Vector (Option Interest) 4)
    (wants : Interest → Bool) (n : Notice) (r : Record) :
    Calm s (((s.setSlot i x).notifyWatchers w wants n).dirtyMarkOf r) :=
  ((Calm.of_eqs rfl rfl).trans (.notifyWatchers _ _ _ _)).trans (.dirtyMarkOf _ _)

theorem Calm.changeGuard (s : State) (i : Slot) (r : Record) (g : Guard) : Calm s (s.changeGuard i r g) := by
  unfold State.changeGuard
  split
  · exact .of_eqs rfl rfl
  · exact .changed s _ _ _ _ _ _

theorem Calm.leaveValue (s : State) (i : Slot) (r : Record) (v : Word) : Calm s (s.leaveValue i r v) := by
  unfold State.leaveValue
  split
  · exact .of_eqs rfl rfl
  · exact .changed s _ _ _ _ _ _

/-! ### Changes that leave the parked requests as they were -/

theorem Accounts.calm (h : Accounts s E owed own) (calm : Calm s t)
    (waits : ∀ i : Slot, Record.waiting? t.slots[i] = Record.waiting? s.slots[i]) : Accounts t E owed own :=
  h.same calm.1 fun _ => State.bag_congr waits fun g => by rw [calm.2]

/-- A change of one record but for its waiters. -/
theorem Accounts.changed (h : Accounts s E owed own) (calm : Calm s t) {r' : Record} (hr : s.slots[i] = some r)
    (ht : t.slots = s.slots.set i (some r')) (hw : r'.waiters = r.waiters) : Accounts t E owed own :=
  h.same calm.1 (State.bag_sameWaiters hr hw ht calm.2)

/-- A place of the table without waiters before or after. -/
theorem Accounts.unwaited (h : Accounts s E owed own) (calm : Calm s t) {x : Option Record}
    (before : Record.waiting? s.slots[i] = []) (after : Record.waiting? x = []) (ht : t.slots = s.slots.set i x) :
    Accounts t E owed own :=
  h.calm calm fun j => by
    rw [ht, vector_set_at]
    split
    · subst j; rw [before, after]
    · rfl

/-- A record whose claims leave its list, their ends still to be told. -/
theorem Accounts.emptied (h : Accounts s E 0 own) (calm : Calm s t) {r' : Record} (hr : s.slots[i] = some r)
    {ws : List ParkedClaim} (parts : ∀ p, tagsOfClaims r.waiters p = tagsOfClaims ws p + tagsOfClaims r'.waiters p)
    (ht : t.slots = s.slots.set i (some r')) : Accounts t E (tagsOfClaims ws) own := by
  refine h.move calm.1 fun p => ?_
  have sum := State.bag_setSlot (p := p) ht calm.2
  rw [hr, show Record.waiting? (some r) = r.waiters from rfl, show Record.waiting? (some r') = r'.waiters from rfl,
    parts, ← add_assoc] at sum
  exact (add_right_cancel sum).trans (add_zero _).symm

/-! ### The end of parked claims -/

theorem tagsOfClaims_single (w : ParkedClaim) (ws : List ParkedClaim) (p : PortId) :
    tagsOfClaims (w :: ws) p = single w.port w.tag p + tagsOfClaims ws p := tagsOfClaims_cons w ws p

theorem Accounts.answerRetired {ws : List ParkedClaim} (h : Accounts s E (tagsOfClaims ws) own) (b : HoldBlock) :
    Accounts (s.answerRetired ws b) E 0 own := by
  induction ws generalizing s with
  | nil => exact h
  | cons w ws ih =>
    refine ih (h.ended (r := claimReply w.tag .retired (.hold b)) (q := w.port) ?_ (fun p => ?_)
      (tagsOfClaims_single w ws))
    · simp [State.dropClaim, State.unpark, State.fill, State.modifyPort, Port.ended]
    · exact State.bag_congr (fun i => by simp) fun g => by simp

/-- R52: a parked claim ends with its reply. -/
theorem State.endClaim_filled (h : s.slots[i] = some r) (w : ParkedClaim) (st : Status) :
    ∃ x : Payload, s.endClaim i w st = { s with
      slots := s.slots.set i (some { r with waiters := r.waiters.erase w })
      deadlines := without s.deadlines w.wait.serial?
      ports := s.ports.set w.port (s.ports[w.port].ended (claimReply w.tag st x)) } := by
  have stands : (s.withdrawClaim i w).slots[i] = some { r with waiters := r.waiters.erase w } := by
    rw [State.withdrawClaim_eq h]
    exact (vector_set_at _ _ _ _).trans (if_pos rfl)
  refine ⟨.hold ((s.withdrawClaim i w).holdBlock { r with waiters := r.waiters.erase w }), ?_⟩
  rw [State.endClaim, State.fillClaim, stands]
  obtain ⟨x, hx⟩ : ∃ x, x = (s.withdrawClaim i w).holdBlock { r with waiters := r.waiters.erase w } := ⟨_, rfl⟩
  show (s.withdrawClaim i w).fill w.port (claimReply w.tag st (.hold (State.holdBlock _ _))) = _
  rw [← hx, State.withdrawClaim_eq h]
  simp [State.fill, State.modifyPort, Port.ended]

theorem Accounts.endClaim (h : Accounts s E 0 own) (hr : s.slots[i] = some r) (hw : w ∈ r.waiters) (st : Status) :
    Accounts (s.endClaim i w st) E 0 own := by
  obtain ⟨x, e⟩ := State.endClaim_filled hr w st
  rw [e]
  have left := h.emptied (t := { s with slots := s.slots.set i (some { r with waiters := r.waiters.erase w }) })
    (ws := [w]) (.of_eqs rfl rfl) hr
    (fun p => by rw [tagsOfClaims_single, tagsOfClaims_nil, add_zero]; exact tagsOfClaims_erase hw p) rfl
  exact left.ended (r := claimReply w.tag st x) (q := w.port) rfl (fun _ => State.bag_congr (fun _ => rfl) fun _ => rfl)
    (tagsOfClaims_single w [])

theorem State.deadlined_groups (s : State) (kind : DeadlineKind) (key : Key) (q : PortId) (len : Ticks) :
    (s.deadlined kind key q len).groups = s.groups := by
  unfold State.deadlined
  split
  · rfl
  · simp

theorem State.passedOn_groups (hw : r.waiters ≠ []) (s : State) (i : Slot) : (s.passedOn i r).groups = s.groups := by
  unfold State.passedOn
  split
  · exact State.deadlined_groups _ _ _ _ _
  · exact absurd ‹_› hw

/-- R55 to R57: the end of a hold, with the claim that it grants. -/
theorem Accounts.passedOn (h : Accounts s E 0 own) (hr : s.slots[i] = some r) :
    Accounts (s.passedOn i r) E 0 own := by
  obtain ⟨key, state, home, guard, value, floor, ceiling, generation, holder, count, lease, waiters, watchers⟩ := r
  cases waiters with
  | nil =>
    obtain ⟨n, slots⟩ := State.passedOn_slots s i
      ⟨key, state, home, guard, value, floor, ceiling, generation, holder, count, lease, [], watchers⟩
    refine h.unwaited ?_ (by rw [hr]; rfl) (by unfold Record.passed; dsimp only; split <;> rfl) slots
    have told : Calm s { s with
        deadlines := without s.deadlines lease
        slots := s.slots.set i (some ⟨key, state, home, guard, value, floor, ceiling, generation, none, 0, none, [],
          watchers⟩)
        ports := handed s.ports watchers Interest.holder (.record key ⟨false, true, false, false, false⟩ value generation
          none) } := ⟨handed_work s.ports watchers _ _, fun _ => rfl⟩
    unfold State.passedOn
    dsimp only
    split
    · exact told.trans (.removed _ i _)
    · exact told
  | cons w rest =>
    obtain ⟨n, slots⟩ := State.passedOn_slots s i
      ⟨key, state, home, guard, value, floor, ceiling, generation, holder, count, lease, w :: rest, watchers⟩
    have granted := h.emptied (ws := [w])
      (t := { s with slots := s.slots.set i (some ⟨key, state, home, guard, value, floor, ceiling, generation,
        some w.port, 1, n, rest, watchers⟩) })
      (.of_eqs rfl rfl) hr (fun p => by rw [tagsOfClaims_single, tagsOfClaims_single, tagsOfClaims_nil, add_zero]) rfl
    have answered := granted.ended (q := w.port)
      (r := claimReply w.tag .granted (.hold ⟨some w.port, 1, leaseOf w.leaseAsked, rest.length⟩))
      (t := { s with
        slots := s.slots.set i (some ⟨key, state, home, guard, value, floor, ceiling, generation, some w.port, 1, n, rest,
          watchers⟩)
        ports := s.ports.set w.port (s.ports[w.port].ended
          (claimReply w.tag .granted (.hold ⟨some w.port, 1, leaseOf w.leaseAsked, rest.length⟩))) })
      rfl (fun _ => State.bag_congr (fun _ => rfl) fun _ => rfl) (tagsOfClaims_single w [])
    refine answered.calm ⟨handed_work _ watchers _ _, fun g => ?_⟩ fun j => ?_
    · rw [State.passedOn_groups (by nofun)]
    · rw [slots]; rfl

end Sys2Proof.Machine
end

section
/-! SUPPORT. The eviction of a port, part by part: the records that it holds handed on, and its parked claims and SYNCs
taken off their lists (R178 to R180). -/

namespace Sys2Proof.Machine

variable {s t u : State} {i j : Slot} {g : GroupId} {p q v : PortId} {r : Record} {w : ParkedClaim} {fills : Bool}

/-! ### The slots of the index, in key order -/

/-- Slots in ascending order of the keys of their records. -/
def InKeyOrder (s : State) (slots : List Slot) : Prop :=
  slots.Pairwise fun i j => ∀ a ∈ s.slots[i], ∀ b ∈ s.slots[j], a.key < b.key

theorem IndexSound.mem_slots (h : IndexSound s) : i ∈ s.index.map IndexEntry.slot ↔ ∃ r, s.slots[i] = some r := by
  obtain ⟨-, entries, records⟩ := h
  constructor
  · intro hi
    obtain ⟨e, he, rfl⟩ := List.mem_map.1 hi
    obtain ⟨r, hr, -⟩ := Option.map_eq_some_iff.1 (entries e he)
    exact ⟨r, hr⟩
  · rintro ⟨r, hr⟩
    exact List.mem_map.2 ⟨_, (records i r hr).1, rfl⟩

theorem IndexSound.inKeyOrder (h : IndexSound s) : InKeyOrder s (s.index.map IndexEntry.slot) := by
  obtain ⟨order, entries, -⟩ := h
  refine List.pairwise_map.2 (order.imp_of_mem fun {d e} hd he lt a ha b hb => ?_)
  have da := entries d hd
  have eb := entries e he
  rw [show s.slots[d.slot] = some a from ha] at da
  rw [show s.slots[e.slot] = some b from hb] at eb
  rwa [Option.some.inj da, Option.some.inj eb]

theorem InKeyOrder.nodup {slots : List Slot} (h : InKeyOrder s slots) (stand : ∀ i ∈ slots, ∃ r, s.slots[i] = some r) :
    slots.Nodup := by
  refine h.imp_of_mem fun {i j} hi _ lt e => ?_
  subst e
  obtain ⟨r, hr⟩ := stand i hi
  exact absurd (lt r hr r hr) (BitVec.lt_irrefl _)

theorem IndexSound.slots_nodup (h : IndexSound s) : (s.index.map IndexEntry.slot).Nodup :=
  h.inKeyOrder.nodup fun _ hi => h.mem_slots.1 hi

/-! ### The holds of a port (R179) -/

theorem IndexSound.mem_heldSlots (h : IndexSound s) : i ∈ s.heldSlots v ↔ ∃ r ∈ s.slots[i], r.holder = some v := by
  rw [State.heldSlots, List.mem_filter, h.mem_slots, decide_eq_true_iff, State.holderOf]
  constructor
  · rintro ⟨⟨r, hr⟩, holder⟩
    exact ⟨r, hr, by rw [hr] at holder; exact holder⟩
  · rintro ⟨r, hr, holder⟩
    have hr : s.slots[i] = some r := hr
    exact ⟨⟨r, hr⟩, by rw [hr]; exact holder⟩

theorem IndexSound.heldSlots_nodup (h : IndexSound s) (v : PortId) : (s.heldSlots v).Nodup := h.slots_nodup.filter _

theorem IndexSound.heldSlots_inKeyOrder (h : IndexSound s) (v : PortId) : InKeyOrder s (s.heldSlots v) :=
  h.inKeyOrder.filter _

theorem State.endHold_none (h : s.slots[i] = none) (expired : Bool) : s.endHold i expired = s := by
  rw [State.endHold, h]

theorem State.handedOn_cons (s : State) (i : Slot) (held : List Slot) :
    s.handedOn (i :: held) = (s.endHold i false).handedOn held := by
  rw [State.handedOn]
  cases hr : s.slots[i] with
  | none => rw [State.endHold_none hr]
  | some r => rw [State.endHold_eq hr]

theorem State.endHolds_eq (s : State) (held : List Slot) : s.endHolds held = s.handedOn held := by
  induction held generalizing s with
  | nil => rfl
  | cons i held ih => rw [State.handedOn_cons, ← ih]; rfl

/-- R55 to R57: the record of a hold that ends, with the lease that it then has. -/
theorem State.passedOn_lease (s : State) (i : Slot) (r : Record) :
    ∃ n, (s.passedOn i r).slots = s.slots.set i (r.passed n)
      ∧ ∀ w rest, r.waiters = w :: rest → (n = none ↔ w.leaseAsked = 0) := by
  cases hw : r.waiters with
  | nil =>
    obtain ⟨n, slots⟩ := s.passedOn_slots i r
    exact ⟨n, slots, nofun⟩
  | cons w rest =>
    obtain ⟨key, state, home, guard, value, floor, ceiling, generation, holder, count, lease, waiters, watchers⟩ := r
    subst hw
    refine ⟨_, rfl, fun w' rest' e => ?_⟩
    obtain ⟨rfl, rfl⟩ := List.cons.inj e
    unfold State.serialFor
    split
    · exact ⟨fun _ => ‹_›, fun _ => rfl⟩
    · exact ⟨nofun, fun h => absurd h ‹_›⟩

theorem State.endHold_other (h : i ≠ j) (s : State) : (s.endHold i false).slots[j] = s.slots[j] := by
  cases hr : s.slots[i] with
  | none => rw [State.endHold_none hr]
  | some r =>
    obtain ⟨n, slots⟩ := s.passedOn_slots i r
    rw [State.endHold_eq hr, slots, vector_set_at, if_neg h]

theorem State.handedOn_other {held : List Slot} (h : j ∉ held) (s : State) : (s.handedOn held).slots[j] = s.slots[j] := by
  induction held generalizing s with
  | nil => rfl
  | cons i held ih =>
    rw [List.mem_cons, not_or] at h
    rw [State.handedOn_cons, ih h.2, State.endHold_other (Ne.symm h.1)]

theorem State.handedOn_held {held : List Slot} (nodup : held.Nodup) (h : j ∈ held) (hr : s.slots[j] = some r) :
    ∃ n, (s.handedOn held).slots[j] = r.passed n
      ∧ ∀ w rest, r.waiters = w :: rest → (n = none ↔ w.leaseAsked = 0) := by
  induction held generalizing s with
  | nil => cases h
  | cons i held ih =>
    obtain ⟨first, nodup⟩ := List.nodup_cons.1 nodup
    rw [State.handedOn_cons]
    by_cases e : i = j
    · subst e
      obtain ⟨n, slots, asked⟩ := s.passedOn_lease i r
      refine ⟨n, ?_, asked⟩
      rw [State.handedOn_other first, State.endHold_eq hr, slots, vector_set_at, if_pos rfl]
    · exact ih nodup ((List.mem_cons.1 h).resolve_left (Ne.symm e)) (by rw [State.endHold_other e, hr])

/-- What handing on a hold of another port's leaves of a port: all but its notices and its watch count. -/
def Port.ToldOnly (q r : Port) : Prop :=
  (r.prst = q.prst ∧ r.privilege = q.privilege ∧ r.requests = q.requests ∧ r.reserved = q.reserved ∧ r.filled = q.filled)
    ∧ (r.tags = q.tags ∧ r.gate = q.gate ∧ r.lastSubmit = q.lastSubmit ∧ r.parked = q.parked)

theorem Port.ToldOnly.refl (q : Port) : q.ToldOnly q := ⟨⟨rfl, rfl, rfl, rfl, rfl⟩, rfl, rfl, rfl, rfl⟩

theorem Port.ToldOnly.trans {x y z : Port} (h : x.ToldOnly y) (h' : y.ToldOnly z) : x.ToldOnly z := by
  obtain ⟨⟨a, b, c, d, e⟩, f, g, k, l⟩ := h
  obtain ⟨⟨a', b', c', d', e'⟩, f', g', k', l'⟩ := h'
  exact ⟨⟨a'.trans a, b'.trans b, c'.trans c, d'.trans d, e'.trans e⟩, f'.trans f, g'.trans g, k'.trans k, l'.trans l⟩

theorem Port.handNotice_told (q : Port) (n : Notice) : q.ToldOnly (q.handNotice n) := by
  unfold Port.handNotice
  split
  · exact .refl q
  · split <;> exact .refl q

theorem handed_told (ports : Vector Port 4) (w : Vector (Option Interest) 4) (wants : Interest → Bool) (n : Notice)
    (q : PortId) : ports[q].ToldOnly (handed ports w wants n)[q] := by
  have port : (handed ports w wants n)[q] = if w[q].any wants then ports[q].handNotice n else ports[q] :=
    Vector.getElem_ofFn _
  rw [port]
  split
  · exact Port.handNotice_told _ n
  · exact .refl _

theorem removedPorts_told (ports : Vector Port 4) (r : Record) (q : PortId) :
    ports[q].ToldOnly (removedPorts ports r)[q] := by
  refine (handed_told ports r.watchers Interest.life
    (.record r.key ⟨false, false, false, true, false⟩ r.value r.generation none) q).trans ?_
  rw [removedPorts, show ∀ h : PortId → Port, (Vector.ofFn h)[q] = h q from fun h => Vector.getElem_ofFn _]
  split <;> exact .refl _

/-- R56: the handoff fills a reply of the port that holds next alone. -/
theorem State.passedOn_told (other : ∀ w ∈ r.waiters, w.port ≠ q) (s : State) (i : Slot) :
    s.ports[q].ToldOnly (s.passedOn i r).ports[q] := by
  obtain ⟨key, state, home, guard, value, floor, ceiling, generation, holder, count, lease, waiters, watchers⟩ := r
  cases waiters with
  | nil =>
    unfold State.passedOn
    dsimp only
    split
    · exact (handed_told s.ports watchers _ _ q).trans (removedPorts_told _ _ q)
    · exact handed_told s.ports watchers _ _ q
  | cons w rest =>
    refine Port.ToldOnly.trans ?_ (handed_told _ watchers _ _ q)
    rw [vector_set_at, if_neg (other w (List.mem_cons_self ..))]
    exact .refl _

theorem State.passedOn_syncs (s : State) (i : Slot) (r : Record) (g : GroupId) :
    (s.passedOn i r).groups[g].syncs = s.groups[g].syncs := by
  by_cases hw : r.waiters = []
  · obtain ⟨key, state, home, guard, value, floor, ceiling, generation, holder, count, lease, waiters, watchers⟩ := r
    subst hw
    unfold State.passedOn
    dsimp only
    split
    · exact (Calm.removed _ i _).2 g
    · rfl
  · rw [State.passedOn_groups hw]

theorem State.endHold_syncs (s : State) (i : Slot) (g : GroupId) :
    (s.endHold i false).groups[g].syncs = s.groups[g].syncs := by
  cases hr : s.slots[i] with
  | none => rw [State.endHold_none hr]
  | some r => rw [State.endHold_eq hr, State.passedOn_syncs]

theorem State.handedOn_syncs (s : State) (held : List Slot) (g : GroupId) :
    (s.handedOn held).groups[g].syncs = s.groups[g].syncs := by
  induction held generalizing s with
  | nil => rfl
  | cons i held ih => rw [State.handedOn_cons, ih, State.endHold_syncs]

/-- R41: a holder waits for none of the records that it holds. -/
theorem State.handedOn_told (sound : RecordsSound s) {held : List Slot} (nodup : held.Nodup)
    (own : ∀ i ∈ held, ∀ r ∈ s.slots[i], r.holder = some v) : s.ports[v].ToldOnly (s.handedOn held).ports[v] := by
  induction held generalizing s with
  | nil => exact .refl _
  | cons i held ih =>
    obtain ⟨first, nodup⟩ := List.nodup_cons.1 nodup
    rw [State.handedOn_cons]
    have once : s.ports[v].ToldOnly (s.endHold i false).ports[v] := by
      cases hr : s.slots[i] with
      | none => rw [State.endHold_none hr]; exact .refl _
      | some r =>
        rw [State.endHold_eq hr]
        obtain ⟨-, -, -, -, -, -, -, waits, -⟩ := sound i r hr
        refine State.passedOn_told (fun w hw e => (waits w hw).1 ?_) s i
        rw [e, own i (List.mem_cons_self ..) r hr]
    refine once.trans (ih (sound.endHold i) nodup fun j hj r hr => own j (List.mem_cons_of_mem _ hj) r ?_)
    have other : i ≠ j := fun e => first (e ▸ hj)
    rwa [State.endHold_other other] at hr

/-! ### The parked claims of a port (R180) -/

theorem Record.claimOf_port (h : r.claimOf p = some w) : w.port = p := by
  simpa using List.find?_some h

theorem IndexSound.mem_claimsOf (h : IndexSound s) (sound : RecordsSound s) {c : Slot × ParkedClaim} :
    c ∈ s.claimsOf v ↔ c.2.port = v ∧ ∃ r, s.slots[c.1] = some r ∧ c.2 ∈ r.waiters := by
  rw [State.claimsOf, List.mem_filterMap]
  constructor
  · rintro ⟨i, -, found⟩
    obtain ⟨w, claim, rfl⟩ := Option.map_eq_some_iff.1 found
    obtain ⟨r, hr, claim⟩ := Option.bind_eq_some_iff.1 claim
    exact ⟨Record.claimOf_port claim, r, hr, List.mem_of_find?_eq_some claim⟩
  · rintro ⟨port, r, hr, hw⟩
    obtain ⟨i, w⟩ := c
    have hr : s.slots[i] = some r := hr
    refine ⟨i, h.mem_slots.2 ⟨r, hr⟩, ?_⟩
    obtain ⟨-, -, -, -, -, nodup, -⟩ := sound i r hr
    rw [hr, Option.bind_some, Record.claimOf_eq_some nodup hw port]
    rfl

/-- A function of each slot that names the slot keeps a list of slots in its order. -/
theorem State.claimsOf_slots (s : State) (v : PortId) :
    ((s.claimsOf v).map Prod.fst).Sublist (s.index.map IndexEntry.slot) := by
  rw [State.claimsOf]
  induction s.index.map IndexEntry.slot with
  | nil => exact .slnil
  | cons i slots ih =>
    rw [List.filterMap_cons]
    cases (s.slots[i].bind fun r => r.claimOf v) with
    | none => exact ih.cons i
    | some w => exact ih.cons_cons i

theorem State.withdrawClaim_none (h : s.slots[i] = none) (w : ParkedClaim) : s.withdrawClaim i w = s := by
  rw [State.withdrawClaim, h]

theorem State.evictClaim_slots (s : State) (fills : Bool) (i : Slot) (w : ParkedClaim) (j : Slot) :
    (s.evictClaim fills (i, w)).slots[j]
      = if i = j then s.slots[j].map fun r => { r with waiters := r.waiters.erase w } else s.slots[j] := by
  have same : (s.evictClaim fills (i, w)).slots = (s.withdrawClaim i w).slots := by
    unfold State.evictClaim
    dsimp only
    split
    · simp
    · rfl
  rw [same]
  cases hr : s.slots[i] with
  | none =>
    rw [State.withdrawClaim_none hr]
    split
    · subst j; rw [hr]; rfl
    · rfl
  | some r =>
    rw [State.withdrawClaim_eq hr, vector_set_at]
    split
    · subst j; rw [hr]; rfl
    · rfl

theorem State.evictClaims_other {cs : List (Slot × ParkedClaim)} (h : j ∉ cs.map Prod.fst) (s : State) (fills : Bool) :
    (s.evictClaims fills cs).slots[j] = s.slots[j] := by
  induction cs generalizing s with
  | nil => rfl
  | cons c cs ih =>
    rw [List.map_cons, List.mem_cons, not_or] at h
    rw [State.evictClaims, ih h.2, State.evictClaim_slots, if_neg (Ne.symm h.1)]

theorem State.evictClaims_at {cs : List (Slot × ParkedClaim)} (nodup : (cs.map Prod.fst).Nodup) (h : (j, w) ∈ cs)
    (s : State) (fills : Bool) :
    (s.evictClaims fills cs).slots[j] = s.slots[j].map fun r => { r with waiters := r.waiters.erase w } := by
  induction cs generalizing s with
  | nil => cases h
  | cons c cs ih =>
    obtain ⟨first, nodup⟩ := List.nodup_cons.1 nodup
    rw [State.evictClaims]
    obtain rfl | h := List.mem_cons.1 h
    · rw [State.evictClaims_other first, State.evictClaim_slots, if_pos rfl]
    · have other : c.1 ≠ j := fun e => first (List.mem_map.2 ⟨_, h, e.symm⟩)
      rw [ih nodup h, State.evictClaim_slots, if_neg other]

/-- A claim is the only one of its port on a waiter list (R44). -/
theorem erase_claim {ws : List ParkedClaim} (nodup : (ws.map ParkedClaim.port).Nodup) (h : w ∈ ws) :
    ws.erase w = ws.filter fun x => decide (x.port ≠ w.port) := by
  induction ws with
  | nil => cases h
  | cons x ws ih =>
    obtain ⟨first, nodup⟩ := List.nodup_cons.1 nodup
    obtain rfl | h := List.mem_cons.1 h
    · rw [List.erase_cons_head, List.filter_cons_of_neg (by simp)]
      refine (List.filter_eq_self.2 fun y hy => ?_).symm
      exact decide_eq_true fun e => first (List.mem_map.2 ⟨y, hy, e⟩)
    · have other : x.port ≠ w.port := fun e => first (List.mem_map.2 ⟨w, h, e.symm⟩)
      rw [List.erase_cons_tail (by simpa using fun e => other (congrArg ParkedClaim.port e)),
        List.filter_cons_of_pos (by simpa using other), ih nodup h]

/-- R180: the waiter lists without the claims of the port. -/
theorem State.evictClaims_slots (h : IndexSound s) (sound : RecordsSound s) (v : PortId) (fills : Bool) (j : Slot) :
    (s.evictClaims fills (s.claimsOf v)).slots[j]
      = s.slots[j].map fun r => { r with waiters := r.waiters.filter fun w => decide (w.port ≠ v) } := by
  have nodup : ((s.claimsOf v).map Prod.fst).Nodup := (s.claimsOf_slots v).nodup h.slots_nodup
  by_cases claims : j ∈ (s.claimsOf v).map Prod.fst
  · obtain ⟨⟨j', w⟩, hc, rfl⟩ := List.mem_map.1 claims
    obtain ⟨port, r, hr, hw⟩ := (h.mem_claimsOf sound).1 hc
    obtain ⟨-, -, -, -, -, apart, -⟩ := sound _ r hr
    have hr : s.slots[j'] = some r := hr
    have port : w.port = v := port
    rw [State.evictClaims_at nodup hc, hr, Option.map_some, Option.map_some, erase_claim apart hw, port]
  · rw [State.evictClaims_other claims]
    cases hr : s.slots[j] with
    | none => rfl
    | some r =>
      have none (w : ParkedClaim) (hw : w ∈ r.waiters) : w.port ≠ v := fun port =>
        claims (List.mem_map.2 ⟨(j, w), (h.mem_claimsOf sound).2 ⟨port, r, hr, hw⟩, rfl⟩)
      rw [Option.map_some, List.filter_eq_self.2 fun w hw => decide_eq_true (none w hw)]

end Sys2Proof.Machine
end

section
/-! SUPPORT. The eviction of a port, part by part: what it makes of the port's parked count and reply entries (R180). -/

namespace Sys2Proof.Machine

variable {s t u : State} {i j : Slot} {g : GroupId} {p q v : PortId} {r : Record} {w : ParkedClaim} {fills : Bool}
  {E : PortId → Prop} {owed owed' own : PortId → Multiset Tag}

/-! ### Many parked requests of one port -/

/-- R52, R180: `n` parked requests of a port have ended, with the replies that are filled. -/
def Port.dropped (q : Port) (rs : List Reply) (n : Nat) : Port := { rs.foldl Port.fill q with parked := q.parked - n }

theorem Port.fill_withParked (q : Port) (n : Nat) (x : Reply) :
    Port.fill { q with parked := n } x = { q.fill x with parked := n } := by
  unfold Port.fill
  dsimp only
  split <;> rfl

theorem Port.fills_withParked (rs : List Reply) (q : Port) (n : Nat) :
    rs.foldl Port.fill { q with parked := n } = { rs.foldl Port.fill q with parked := n } := by
  induction rs generalizing q with
  | nil => rfl
  | cons x rs ih => rw [List.foldl_cons, Port.fill_withParked, ih, List.foldl_cons]

theorem Port.dropped_dropped (q : Port) (rs rs' : List Reply) (n n' : Nat) :
    (q.dropped rs n).dropped rs' n' = q.dropped (rs ++ rs') (n + n') := by
  unfold Port.dropped
  rw [Port.fills_withParked, List.foldl_append, Nat.sub_add_eq]

theorem Port.ended_eq (q : Port) (x : Reply) : q.ended x = q.dropped [x] 1 := Port.fill_withParked q _ x

theorem Port.fills_reserved (rs : List Reply) (q : Port) :
    ((rs.foldl Port.fill q).reserved : Multiset Tag) = (q.reserved : Multiset Tag) - (rs.map Reply.tag : List Tag) := by
  induction rs generalizing q with
  | nil => exact (tsub_zero _).symm
  | cons x rs ih =>
    rw [List.foldl_cons, ih, Port.fill_reserved, List.map_cons, ← Multiset.cons_coe, Multiset.sub_cons]

theorem Port.fills_none (rs : List Reply) {q : Port} (h : q.reserved = []) : (rs.foldl Port.fill q).reserved = [] := by
  have left := Port.fills_reserved rs q
  rw [h] at left
  exact (Multiset.coe_eq_zero _).1 (left.trans (tsub_eq_zero_of_le (Multiset.zero_le _)))

/-- The tags of one port's requests, and none of another's. -/
def severals (v : PortId) (tags : Multiset Tag) (p : PortId) : Multiset Tag := if v = p then tags else 0

/-- R180: many parked requests of one port have ended, with their replies or, after PRST#, without. -/
theorem Accounts.dropped (h : Accounts s E owed own) {tags : List Tag} {reply : Tag → Reply}
    (named : ∀ x, (reply x).tag = x) (told : fills = true ∨ E v)
    (ht : t.ports = s.ports.set v (s.ports[v].dropped (if fills then tags.map reply else []) tags.length))
    (bag : ∀ p, t.bag p = s.bag p) (owes : ∀ p, owed p = severals v tags p + owed' p) : Accounts t E owed' own := by
  have port (p : PortId) : t.ports[p]
      = if v = p then s.ports[v].dropped (if fills then tags.map reply else []) tags.length else s.ports[p] := by
    rw [ht, vector_set_at]
  refine ⟨fun p => ?_, fun p e => ?_, fun p e => ?_⟩
  · have count := h.count p
    rw [owes] at count
    rw [port, bag]
    split
    · subst p
      show s.ports[v].parked - tags.length = _
      rw [count, severals, if_pos rfl, Multiset.card_add, Multiset.card_add, Multiset.card_add, Multiset.coe_card]
      omega
    · rw [count, severals, if_neg ‹_›, zero_add]
  · have none := h.cleared p e
    rw [port]
    split
    · subst p; exact Port.fills_none _ none
    · exact none
  · have entries := h.entries p e
    rw [owes] at entries
    rw [port, bag]
    split
    · subst p
      rw [told.resolve_right e, if_pos rfl]
      show (((tags.map reply).foldl Port.fill s.ports[v]).reserved : Multiset Tag) = _
      have names : (tags.map reply).map Reply.tag = tags := by
        rw [List.map_map, show Reply.tag ∘ reply = id from funext named, List.map_id]
      rw [Port.fills_reserved, names, entries, severals, if_pos rfl,
        show s.bag v + (↑tags + owed' v) + own v = ↑tags + (s.bag v + owed' v + own v) by abel,
        add_tsub_cancel_left]
    · rw [entries, severals, if_neg ‹_›, zero_add]

/-! ### Holds -/

theorem Accounts.endHold (h : Accounts s E 0 own) (i : Slot) : Accounts (s.endHold i false) E 0 own := by
  cases hr : s.slots[i] with
  | none => rwa [State.endHold_none hr]
  | some r => rw [State.endHold_eq hr]; exact h.passedOn hr

theorem Accounts.handedOn (h : Accounts s E 0 own) (held : List Slot) : Accounts (s.handedOn held) E 0 own := by
  induction held generalizing s with
  | nil => exact h
  | cons i held ih => rw [State.handedOn_cons]; exact ih (h.endHold i)

/-! ### Parked claims -/

/-- R180: one parked claim of the evicted port has ended. -/
theorem State.evictClaim_eq (hr : s.slots[i] = some r) (w : ParkedClaim) (fills : Bool) :
    s.evictClaim fills (i, w) = { s with
      slots := s.slots.set i (some { r with waiters := r.waiters.erase w })
      deadlines := without s.deadlines w.wait.serial?
      ports := s.ports.set w.port
        (s.ports[w.port].dropped (if fills then [evictedReply claimCode w.tag] else []) 1) } := by
  unfold State.evictClaim
  dsimp only
  rw [State.withdrawClaim_eq hr]
  cases fills with
  | false => rfl
  | true =>
    simp only [if_true]
    rw [← Port.ended_eq]
    simp [State.fill, State.modifyPort, Port.ended]

theorem Accounts.evictClaim (h : Accounts s E 0 own) (hr : s.slots[i] = some r) (hw : w ∈ r.waiters)
    (told : fills = true ∨ E w.port) : Accounts (s.evictClaim fills (i, w)) E 0 own := by
  rw [State.evictClaim_eq hr]
  have left := h.emptied (t := { s with slots := s.slots.set i (some { r with waiters := r.waiters.erase w }) })
    (ws := [w]) (.of_eqs rfl rfl) hr
    (fun p => by rw [tagsOfClaims_single, tagsOfClaims_nil, add_zero]; exact tagsOfClaims_erase hw p) rfl
  exact left.dropped (tags := [w.tag]) (reply := evictedReply claimCode) (fun _ => rfl) told rfl
    (fun _ => State.bag_congr (fun _ => rfl) fun _ => rfl) (tagsOfClaims_single w [])

/-- Claims with their slots, each on the record of its slot, one for a slot. -/
def ClaimsStand (s : State) (v : PortId) (cs : List (Slot × ParkedClaim)) : Prop :=
  (cs.map Prod.fst).Nodup ∧ ∀ c ∈ cs, c.2.port = v ∧ ∃ r, s.slots[c.1] = some r ∧ c.2 ∈ r.waiters

theorem ClaimsStand.rest {c : Slot × ParkedClaim} {cs : List (Slot × ParkedClaim)} (h : ClaimsStand s v (c :: cs))
    (fills : Bool) : ClaimsStand (s.evictClaim fills c) v cs := by
  obtain ⟨nodup, stand⟩ := h
  obtain ⟨first, nodup⟩ := List.nodup_cons.1 nodup
  refine ⟨nodup, fun d hd => ?_⟩
  obtain ⟨port, r, hr, hw⟩ := stand d (List.mem_cons_of_mem _ hd)
  have other : c.1 ≠ d.1 := fun e => first (List.mem_map.2 ⟨d, hd, e.symm⟩)
  exact ⟨port, r, by rw [State.evictClaim_slots, if_neg other, hr], hw⟩

theorem IndexSound.claimsStand (h : IndexSound s) (sound : RecordsSound s) (v : PortId) :
    ClaimsStand s v (s.claimsOf v) :=
  ⟨(s.claimsOf_slots v).nodup h.slots_nodup, fun _ hc => (h.mem_claimsOf sound).1 hc⟩

theorem Accounts.evictClaims {cs : List (Slot × ParkedClaim)} (h : Accounts s E 0 own) (stand : ClaimsStand s v cs)
    (told : fills = true ∨ E v) : Accounts (s.evictClaims fills cs) E 0 own := by
  induction cs generalizing s with
  | nil => exact h
  | cons c cs ih =>
    obtain ⟨port, r, hr, hw⟩ := stand.2 c (List.mem_cons_self ..)
    exact ih (h.evictClaim hr hw (port ▸ told)) (stand.rest fills)

/-- R180: what ending the parked claims leaves of the rest of the state. -/
theorem State.evictClaims_eq {cs : List (Slot × ParkedClaim)} (stand : ClaimsStand s v cs) (fills : Bool) :
    s.evictClaims fills cs = { s with
      slots := (s.evictClaims fills cs).slots
      deadlines := withoutWaits s.deadlines (cs.map Prod.snd)
      ports := s.ports.set v (s.ports[v].dropped
        (if fills then cs.map fun c => evictedReply claimCode c.2.tag else []) cs.length) } := by
  induction cs generalizing s with
  | nil =>
    have same : s.ports.set v (s.ports[v].dropped (if fills then [] else []) 0) = s.ports := by
      rw [ite_self]
      exact Vector.set_eq_of_at rfl
    show s = { s with
      slots := s.slots, deadlines := withoutWaits s.deadlines []
      ports := s.ports.set v (s.ports[v].dropped (if fills then [] else []) 0) }
    rw [same, withoutWaits_nil]
  | cons c cs ih =>
    obtain ⟨rfl, r, hr, hw⟩ := stand.2 c (List.mem_cons_self ..)
    obtain ⟨i, w⟩ := c
    have eq := State.evictClaim_eq hr w fills
    rw [State.evictClaims]
    have rest := ih (stand.rest fills)
    obtain ⟨slots, hs⟩ : ∃ x, x = ((s.evictClaim fills (i, w)).evictClaims fills cs).slots := ⟨_, rfl⟩
    rw [← hs] at rest ⊢
    rw [rest, eq]
    have port : (s.ports.set w.port (s.ports[w.port].dropped
          (if fills then [evictedReply claimCode w.tag] else []) 1))[w.port]
        = s.ports[w.port].dropped (if fills then [evictedReply claimCode w.tag] else []) 1 :=
      (vector_set_at _ _ _ _).trans (if_pos rfl)
    congr 1
    · exact withoutWaits_cons _ _ _
    · dsimp only
      rw [port, Vector.set_set, Port.dropped_dropped]
      cases fills <;> simp [Nat.add_comm]

/-! ### Parked SYNCs -/

theorem State.evictSync_eq (s : State) (fills : Bool) (v : PortId) (x : Tag) :
    s.evictSync fills v x = { s with
      ports := s.ports.set v (s.ports[v].dropped (if fills then [evictedReply syncCode x] else []) 1) } := by
  unfold State.evictSync
  dsimp only
  cases fills with
  | false => rfl
  | true =>
    simp only [if_true]
    rw [← Port.ended_eq]
    simp [State.fill, State.unpark, State.modifyPort, Port.ended]

theorem State.evictSyncs_eq (s : State) (fills : Bool) (v : PortId) (tags : List Tag) :
    s.evictSyncs fills v tags = { s with
      ports := s.ports.set v (s.ports[v].dropped (if fills then tags.map (evictedReply syncCode) else [])
        tags.length) } := by
  induction tags generalizing s with
  | nil =>
    have same : s.ports.set v (s.ports[v].dropped (if fills then [] else []) 0) = s.ports := by
      rw [ite_self]
      exact Vector.set_eq_of_at rfl
    show s = { s with ports := s.ports.set v (s.ports[v].dropped (if fills then [] else []) 0) }
    rw [same]
  | cons x tags ih =>
    rw [State.evictSyncs, ih, State.evictSync_eq]
    have port : (s.ports.set v (s.ports[v].dropped (if fills then [evictedReply syncCode x] else []) 1))[v]
        = s.ports[v].dropped (if fills then [evictedReply syncCode x] else []) 1 :=
      (vector_set_at _ _ _ _).trans (if_pos rfl)
    congr 1
    dsimp only
    rw [port, Vector.set_set, Port.dropped_dropped]
    cases fills <;> simp [Nat.add_comm]

theorem State.flatMap_groups (s : State) (v : PortId) :
    (s.groups.toList.flatMap fun x => (x.syncs.filter fun w => decide (w.port = v)).map ParkedSync.tag)
      = s.syncTags v := by
  rw [toList_eq_finRange, List.flatMap_map]
  rfl

/-- Log 20: the order of the replies is one of the parked SYNCs. -/
theorem State.syncTagsOf_perm (h : s.ports[v].reserved = [] ∨
    (s.ports[v].reserved.Nodup ∧ ∃ rest, (s.ports[v].reserved : Multiset Tag) = ↑(s.syncTags v) + rest)) :
    (s.syncTagsOf v).Perm (s.syncTags v) := by
  rw [State.syncTagsOf]
  rw [State.flatMap_groups]
  obtain none | ⟨nodup, rest, all⟩ := h
  · rw [none, List.filter_nil, List.nil_append, List.filter_eq_self.2 (by simp)]
  · have part : (s.syncTags v).Subperm s.ports[v].reserved := by
      rw [← Multiset.coe_le, all]
      exact Multiset.le_add_right _ _
    have apart : (s.syncTags v).Nodup := by
      obtain ⟨l, perm, sub⟩ := part
      exact perm.nodup_iff.1 (sub.nodup nodup)
    have left : (s.syncTags v).filter (fun x => !decide (x ∈ s.ports[v].reserved)) = [] :=
      List.filter_eq_nil_iff.2 fun x hx => by simpa using part.subset hx
    rw [left, List.append_nil]
    refine (List.perm_ext_iff_of_nodup (nodup.filter _) apart).2 fun x => ?_
    rw [List.mem_filter, decide_eq_true_iff]
    exact ⟨And.right, fun hx => ⟨part.subset hx, hx⟩⟩

theorem Accounts.syncTagsOf_perm (h : Accounts s E 0 own) (sound : PortSound s.ports[v]) :
    (s.syncTagsOf v).Perm (s.syncTags v) := by
  obtain ⟨-, -, nodup, perm, -⟩ := sound
  refine State.syncTagsOf_perm ?_
  by_cases e : E v
  · exact .inl (h.cleared v e)
  · refine .inr ⟨?_, (∑ i : Slot, tagsOfClaims (Record.waiting? s.slots[i]) v) + own v, ?_⟩
    · have := (perm.nodup_iff.1 nodup)
      rw [Port.outstanding] at this
      exact (List.nodup_append.1 (List.nodup_append.1 this).1).2.1
    · rw [h.entries v e, State.coe_syncTags, State.bag]
      show _ + _ + (0 : Multiset Tag) + own v = _
      abel

/-- The SYNCs of one port, and those of the others. -/
theorem tagsOfSyncs_withdrawn (ws : List ParkedSync) (v p : PortId) :
    tagsOfSyncs (ws.filter fun w => decide (w.port ≠ v)) p + severals v (tagsOfSyncs ws v) p = tagsOfSyncs ws p := by
  unfold tagsOfSyncs severals
  rw [Multiset.filter_coe, Multiset.filter_coe, Multiset.filter_coe, List.filter_filter]
  split
  · subst p
    rw [List.filter_eq_nil_iff.2 (by simp)]
    exact zero_add _
  · rename_i ne
    have same : (fun w : ParkedSync => decide (w.port = p) && decide (w.port ≠ v)) = fun w => decide (w.port = p) :=
      funext fun w => by
        by_cases e : w.port = p
        · simp [e, Ne.symm ne]
        · simp [e]
    rw [same, add_zero]

/-- The SYNCs of a port leave their lists. -/
theorem State.withdrawSyncs_bag (s : State) (v p : PortId) :
    (s.withdrawSyncs v).bag p + severals v ↑(s.syncTags v) p = s.bag p := by
  have owed : severals v ↑(s.syncTags v) p = ∑ g : GroupId, severals v (tagsOfSyncs s.groups[g].syncs v) p := by
    rw [State.coe_syncTags]
    unfold severals
    split
    · rfl
    · exact Finset.sum_const_zero.symm
  rw [owed, State.bag, State.bag, add_assoc, ← Finset.sum_add_distrib]
  refine congrArg₂ _ (Finset.sum_congr rfl fun i _ => by simp) (Finset.sum_congr rfl fun g _ => ?_)
  rw [State.withdrawSyncs_at]
  exact tagsOfSyncs_withdrawn _ v p

/-! ### The eviction of a port -/

/-- R179: the state once the holds of the port have been handed on. -/
def State.freed (s : State) (v : PortId) : State := s.handedOn (s.heldSlots v)

/-- R180: the state once its parked claims have left their lists, too. -/
def State.unclaimed (s : State) (v : PortId) (fills : Bool) : State :=
  (s.freed v).evictClaims fills ((s.freed v).claimsOf v)

theorem State.evict_eq (s : State) (v : PortId) (fills : Bool) :
    s.evict v fills = State.modifyPort
      ((((s.unclaimed v fills).withdrawSyncs v).evictSyncs fills v ((s.unclaimed v fills).syncTagsOf v)).dropPortWatches v)
      v evictedPort := by
  rw [State.evict, State.evictWork, State.endHolds_eq]
  rfl

theorem IndexSound.handedOn (h : IndexSound s) (held : List Slot) : IndexSound (s.handedOn held) := by
  induction held generalizing s with
  | nil => exact h
  | cons i held ih => rw [State.handedOn_cons]; exact ih (h.endHold i false)

theorem IndexSound.freed (h : IndexSound s) (v : PortId) : IndexSound (s.freed v) := h.handedOn _

theorem RecordsSound.freed (h : RecordsSound s) (v : PortId) : RecordsSound (s.freed v) := by
  rw [State.freed, ← State.endHolds_eq]
  exact h.endHolds _

theorem PortsMove.freed (s : State) (v : PortId) : PortsMove s (s.freed v) := by
  rw [State.freed, ← State.endHolds_eq]
  exact .endHolds s _

theorem PortsMove.unclaimed (s : State) (v : PortId) (fills : Bool) : PortsMove s (s.unclaimed v fills) :=
  (PortsMove.freed s v).trans (.evictClaims _ _ _)

theorem Accounts.unclaimed (h : Accounts s E 0 own) (index : IndexSound s) (records : RecordsSound s)
    (told : fills = true ∨ E v) : Accounts (s.unclaimed v fills) E 0 own :=
  (h.handedOn (s.heldSlots v)).evictClaims ((index.freed v).claimsStand (records.freed v) v) told

theorem Accounts.withdrawSyncs (h : Accounts s E 0 own) (v : PortId) :
    Accounts (s.withdrawSyncs v) E (severals v ↑(s.syncTags v)) own :=
  h.move (.of_ports (by simp)) fun p => (s.withdrawSyncs_bag v p).trans (add_zero _).symm

theorem Accounts.evictSyncs {tags : List Tag} (h : Accounts s E (severals v tags) own) (told : fills = true ∨ E v) :
    Accounts (s.evictSyncs fills v tags) E 0 own := by
  rw [State.evictSyncs_eq]
  exact h.dropped (reply := evictedReply syncCode) (fun _ => rfl) told rfl
    (fun _ => State.bag_congr (fun _ => rfl) fun _ => rfl) fun p => (add_zero _).symm

/-- R180: what the eviction of port `v` ends has left its parked count and its reply entries. -/
theorem Accounts.evict (h : Accounts s E 0 own) (index : IndexSound s) (records : RecordsSound s)
    (ports : ∀ q : PortId, PortSound s.ports[q]) (told : fills = true ∨ E v) :
    Accounts (s.evict v fills) E 0 own := by
  have claims := h.unclaimed index records told
  have perm := claims.syncTagsOf_perm (v := v) ((PortsMove.unclaimed s v fills v).sound (ports v))
  have left := claims.withdrawSyncs v
  rw [← Multiset.coe_eq_coe.2 perm] at left
  have ended := left.evictSyncs told
  rw [State.evict_eq]
  obtain ⟨w, hw⟩ : ∃ w, w = ((s.unclaimed v fills).withdrawSyncs v).evictSyncs fills v
    ((s.unclaimed v fills).syncTagsOf v) := ⟨_, rfl⟩
  rw [← hw] at ended ⊢
  refine ended.calm ⟨.setPort ⟨rfl, rfl⟩ (x := evictedPort w.ports[v]) (q := v) (by simp [State.modifyPort]), fun g => by simp⟩
    fun i => ?_
  have slots : ((w.dropPortWatches v).modifyPort v evictedPort).slots[i] = (w.dropPortWatches v).slots[i] := by simp
  rw [slots, State.dropPortWatches_at]
  cases w.slots[i] <;> rfl

/-- R180, R181: a record after the eviction of a port, once its hold has been handed on. -/
def Record.without (r : Record) (v : PortId) : Record :=
  { r with waiters := r.waiters.filter fun w => decide (w.port ≠ v), watchers := r.watchers.set v none }

theorem State.evict_at (index : IndexSound s) (records : RecordsSound s) (v : PortId) (fills : Bool) (i : Slot) :
    (s.evict v fills).slots[i] = (s.freed v).slots[i].map fun r => r.without v := by
  have claims := State.evictClaims_slots (index.freed v) (records.freed v) v fills i
  have moved (w : State) : (w.modifyPort v evictedPort).slots[i] = w.slots[i] := by simp
  rw [State.evict_eq, moved, State.dropPortWatches_at]
  have same : (((s.unclaimed v fills).withdrawSyncs v).evictSyncs fills v ((s.unclaimed v fills).syncTagsOf v)).slots[i]
      = (s.unclaimed v fills).slots[i] := by simp
  rw [same, State.unclaimed, claims]
  cases (s.freed v).slots[i] <;> rfl

theorem State.evict_group (s : State) (v : PortId) (fills : Bool) (g : GroupId) :
    (s.evict v fills).groups[g] = { (s.freed v).groups[g] with
      syncs := (s.freed v).groups[g].syncs.filter fun w => decide (w.port ≠ v) } := by
  have same : (s.evict v fills).groups[g] = ((s.unclaimed v fills).withdrawSyncs v).groups[g] := by
    rw [State.evict_eq]
    simp
  have claims : (s.unclaimed v fills).groups[g] = (s.freed v).groups[g] := by simp [State.unclaimed]
  rw [same, State.withdrawSyncs_at, claims]

/-- R180: nothing of the evicted port stays parked. -/
theorem State.evict_bag (index : IndexSound s) (records : RecordsSound s) (v : PortId) (fills : Bool) :
    (s.evict v fills).bag v = 0 := by
  have slots (i : Slot) : tagsOfClaims (Record.waiting? (s.evict v fills).slots[i]) v = 0 := by
    rw [State.evict_at index records]
    refine tagsOfClaims_none fun w hw => ?_
    cases hr : (s.freed v).slots[i] with
    | none => rw [hr] at hw; cases hw
    | some r =>
      rw [hr] at hw
      have hw : w ∈ r.waiters.filter fun w => decide (w.port ≠ v) := hw
      exact of_decide_eq_true (List.mem_filter.1 hw).2
  have syncs (g : GroupId) : tagsOfSyncs (s.evict v fills).groups[g].syncs v = 0 := by
    rw [State.evict_group, tagsOfSyncs, Multiset.filter_coe, List.filter_filter]
    rw [List.filter_eq_nil_iff.2 (by simp)]
    rfl
  unfold State.bag
  simp only [slots, syncs, Finset.sum_const_zero, add_zero]

end Sys2Proof.Machine
end

section
/-! SUPPORT. What an item makes of the parked counts and the reserved entries (R43, R50, R134, R146). -/

namespace Sys2Proof.Machine

variable {s t u : State} {i : Slot} {g : GroupId} {p q v : PortId} {r : Record} {w : ParkedClaim} {f : RequestFrame}
  {E : PortId → Prop} {owed owed' own : PortId → Multiset Tag}

/-! ### Requests that park (R50, R134) -/

/-- R43: the request in progress is parked. -/
theorem Accounts.park {tag : Tag} (h : Accounts s E 0 (single p tag))
    (ht : t.ports = s.ports.set p { s.ports[p] with parked := s.ports[p].parked + 1 })
    (bag : ∀ q, t.bag q = s.bag q + single p tag q) : Accounts t E 0 0 := by
  have port (q : PortId) : t.ports[q] = if p = q then { s.ports[p] with parked := s.ports[p].parked + 1 }
      else s.ports[q] := by
    rw [ht, vector_set_at]
  refine ⟨fun q => ?_, fun q e => ?_, fun q e => ?_⟩
  · have count : s.ports[q].parked = (s.bag q).card := (h.count q).trans (by rw [Pi.zero_apply, add_zero])
    rw [port, bag, Pi.zero_apply, add_zero, Multiset.card_add]
    split
    · subst q
      rw [single_self, Multiset.card_singleton, ← count]
    · rw [single_other ‹_›, Multiset.card_zero, add_zero, count]
  · have none := h.cleared q e
    rw [port]
    split
    · subst q; exact none
    · exact none
  · have entries : (s.ports[q].reserved : Multiset Tag) = s.bag q + single p tag q :=
      (h.entries q e).trans (by rw [Pi.zero_apply, add_zero])
    rw [port, bag, Pi.zero_apply, add_zero, add_zero, ← entries]
    split
    · subst q; rfl
    · rfl

theorem Accounts.parkClaim (h : Accounts s E 0 (single p f.tag)) (hr : s.slots[i] = some r) (mode : ClaimMode) :
    Accounts (s.parkClaim p f i r mode) E 0 0 := by
  have slots := parkClaim_slots s p f i r mode
  refine h.park (by simp [State.parkClaim, State.park, State.modifyPort]) fun q => ?_
  have sum := State.bag_setSlot (p := q) slots fun g => by simp
  rw [hr] at sum
  change _ + tagsOfClaims r.waiters q = _ + tagsOfClaims (r.waiters ++ [_]) q at sum
  rw [tagsOfClaims_append, tagsOfClaims_single, tagsOfClaims_nil, add_zero, add_comm (tagsOfClaims r.waiters q),
    ← add_assoc] at sum
  exact add_right_cancel sum

theorem Accounts.parkSync (h : Accounts s E 0 (single p f.tag)) (g : GroupId) (c : Bool) :
    Accounts (s.parkSync p f g c) E 0 0 := by
  have eq := State.parkSync_eq s p f g c
  refine h.park (congrArg State.ports eq) fun q => ?_
  have sum := State.bag_setGroup (p := q) (fun i => by rw [eq]) (congrArg State.groups eq) rfl
  rw [tagsOfSyncs_append, tagsOfSyncs_cons, add_comm (tagsOfSyncs s.groups[g].syncs q), ← add_assoc] at sum
  have joined := add_right_cancel sum
  rw [joined, show tagsOfSyncs [] q = 0 from rfl, add_zero]
  rfl

/-! ### The end of parked SYNCs (R135) -/

theorem Accounts.fillSyncs {ws : List ParkedSync} (h : Accounts s E (tagsOfSyncs ws) own) (g : GroupId) (st : Status) :
    Accounts (s.fillSyncs g ws st) E 0 own := by
  induction ws generalizing s with
  | nil => exact h
  | cons w ws ih =>
    refine ih (h.ended (q := w.port)
      (r := ⟨w.tag, syncCode, st, noFlags, none, s.syncPayload g (s.syncHome g w.key)⟩) ?_ (fun p => ?_)
      (tagsOfSyncs_cons w ws))
    · simp only [State.fillSync, State.unpark_fill]
    · exact State.bag_congr (fun i => by simp) fun g => by simp

theorem Accounts.answerSyncs (h : Accounts s E 0 own) (g : GroupId) (which : ParkedSync → Bool) (st : Status) :
    Accounts (s.answerSyncs g which st) E 0 own := by
  refine Accounts.fillSyncs ?_ g st
  refine h.move (.of_ports rfl) fun p => ?_
  have sum := State.bag_setGroup (s := s) (g := g) (p := p)
    (t := s.setGroup g { s.groups[g] with syncs := s.groups[g].syncs.filter fun w => !which w }) (fun _ => rfl) rfl rfl
  rw [tagsOfSyncs_split s.groups[g].syncs which p, ← add_assoc] at sum
  exact (add_right_cancel sum).trans (add_zero _).symm

theorem Accounts.commitGroup (h : Accounts s E 0 own) (g : GroupId) (noted : List (Fin 16)) :
    Accounts (s.commitGroup g noted) E 0 own := by
  have settled : Accounts (s.settleHomes g noted) E 0 own := h.calm (.of_eqs rfl rfl) fun _ => rfl
  unfold State.commitGroup State.settleWorn
  split
  · exact ((settled.answerSyncs g _ _).answerSyncs g _ _).calm (.deviceNotice _ _ _) fun i => by simp
  · exact settled.answerSyncs g _ _

/-! ### RETIRE (R17, R18) -/

theorem Accounts.retireNow (h : Accounts s E 0 (single p f.tag)) (hr : s.slots[i] = some r) :
    Accounts (retireNow p f s i r) E 0 0 := by
  unfold Machine.retireNow
  dsimp only
  have free := h.emptied (ws := r.waiters) (t := (s.removeDeadline r.lease).setSlot i
      (some { r with holder := none, holdCount := 0, lease := none, waiters := [] }))
    (r' := { r with holder := none, holdCount := 0, lease := none, waiters := [] })
    (.of_eqs (by simp) (by simp)) hr (fun p => by rw [tagsOfClaims_nil, add_zero]) (by simp)
  have told := free.answerRetired ⟨none, 0, none, 0⟩
  have stands : (((s.removeDeadline r.lease).setSlot i
      (some { r with holder := none, holdCount := 0, lease := none, waiters := [] })).answerRetired r.waiters
        ⟨none, 0, none, 0⟩).slots[i] = some { r with holder := none, holdCount := 0, lease := none, waiters := [] } := by
    simp
  refine Accounts.answer (told.unwaited (i := i) (x := none) (.remove _ i) (by rw [stands]; rfl) rfl ?_) _
  rw [State.remove_eq stands]
  rfl

theorem Accounts.retireLater (h : Accounts s E 0 (single p f.tag)) (hr : s.slots[i] = some r) :
    Accounts (retireLater p f s i r) E 0 0 := by
  unfold Machine.retireLater
  dsimp only
  have free := h.emptied (ws := r.waiters) (t := s.setSlot i (some { r with state := .retiring, waiters := [] }))
    (r' := { r with state := .retiring, waiters := [] })
    (.of_eqs rfl rfl) hr (fun p => by rw [tagsOfClaims_nil, add_zero]) rfl
  exact ((free.answerRetired _).calm (.notifyWatchers _ _ _ _) fun i => by simp).answer _

/-! ### Every item -/

theorem Served.accounts (h : Served p f s u) (table : TableSound s) (records : RecordsSound s)
    (ports : ∀ q : PortId, PortSound s.ports[q]) (hs : Accounts s E 0 (single p f.tag)) : Accounts u E 0 0 := by
  have at' {i r} (found : s.lookup f.key = some (i, r)) : s.slots[i] = some r := (State.lookup_some found).1
  cases h with
  | answered a => exact hs.answer a
  | created i g h key absent bounds free =>
    refine Accounts.answer (hs.unwaited (i := i) (x := some (createdRecord f.key g (createOperands f) h)) ?_ ?_ rfl ?_) _
    · exact (Calm.of_eqs (by simp) (by simp)).trans (.dirtyMarkOf _ _)
    · rw [State.freeSlot_some free]; rfl
    · exact congrArg State.slots (State.install_dirty_eq s i _)
  | retiredNow i r found => exact hs.retireNow (at' found)
  | retiredLater i r h found => exact hs.retireLater (at' found)
  | guarded i r g a found =>
    obtain ⟨n, slots⟩ := changeGuard_slots s (at' found) g
    exact (hs.changed (.changeGuard s i r g) (at' found) slots rfl).answer a
  | updated i r v a found =>
    obtain ⟨n, slots⟩ := leaveValue_slots s (at' found) v
    exact (hs.changed (.leaveValue s i r v) (at' found) slots rfl).answer a
  | granted i r len a found =>
    obtain ⟨n, slots⟩ := s.grant_slots i r p len
    have granted := hs.changed (.of_eqs (by simp) (by simp)) (at' found) slots rfl
    exact (granted.calm (.notifyHolder _ i) fun j => by simp).answer a
  | raised i r len a found =>
    obtain ⟨n, slots⟩ := s.raiseHold_slots i r len
    exact (hs.changed (.of_eqs (by simp) (by simp)) (at' found) slots rfl).answer a
  | parked i r h mode found => exact hs.parkClaim (at' found) mode
  | lowered i r n a found => exact (hs.changed (t := s.setSlot i (some { r with holdCount := n })) (.of_eqs rfl rfl) (at' found) (s.setSlot_slots i _) rfl).answer a
  | released i r a => exact (hs.endHold i).answer a
  | renewed i r len a found =>
    obtain ⟨n, slots⟩ := s.setLease_slots i r len
    exact (hs.changed (.of_eqs (by simp) (by simp)) (at' found) slots rfl).answer a
  | cancelled i r w a found claim =>
    exact (hs.endClaim (at' found) (List.mem_of_find?_eq_some claim) .cancelled).answer a
  | rewatched i r x a found =>
    refine (hs.changed ⟨.setPort (q := p) ⟨?_, ?_⟩ (congrArg State.ports (s.setWatch_eq p i r x false)), fun g => by simp⟩
      (at' found) (congrArg State.slots (s.setWatch_eq p i r x false)) rfl).answer a <;> rfl
  | watched i r x a found =>
    refine (hs.changed ⟨.setPort (q := p) ⟨?_, ?_⟩ (congrArg State.ports (s.setWatch_eq p i r x true)), fun g => by simp⟩
      (at' found) (congrArg State.slots (s.setWatch_eq p i r x true)) rfl).answer a <;> rfl
  | unwatched i r a found =>
    refine (hs.changed ⟨.setPort (q := p) ⟨?_, ?_⟩ (congrArg State.ports (s.clearWatch_eq p i r)), fun g => by simp⟩
      (at' found) (congrArg State.slots (s.clearWatch_eq p i r)) rfl).answer a <;> rfl
  | gated g a =>
    refine Accounts.answer (hs.calm ⟨.setPort (q := p) ?_ rfl, fun g => by simp⟩ fun i => by simp) a
    unfold gatedPort
    split <;> exact ⟨rfl, rfl⟩
  | synced g => exact hs.parkSync g _
  | promoted g => exact (hs.parkSync g false).calm (.of_eqs rfl rfl) fun _ => rfl
  | evicted v a => exact (hs.evict table.1 records ports (.inl rfl)).answer a
  | cleared g a =>
    exact Accounts.answer (hs.calm (t := s.clearFault g) (.setGroup (g := g) (x := { s.groups[g] with state := .queued, unpersisted := false }) rfl rfl rfl)
      fun _ => rfl) a

theorem Handled.accounts {e : Event} (h : Handled s e u) (table : TableSound s) (records : RecordsSound s)
    (ports : ∀ q : PortId, PortSound s.ports[q]) (evicts : ∀ v, e = .eviction v → E v) (hs : Accounts s E 0 own) :
    Accounts u E 0 own := by
  have at' {k i r} (found : s.lookup k = some (i, r)) : s.slots[i] = some r := (State.lookup_some found).1
  cases h with
  | discarded => exact hs
  | leaseExpired key p n i r found held =>
    rw [State.endHold_expired (at' found) held]
    refine Accounts.passedOn (hs.calm ⟨.setPort (q := p) (Port.handNotice_parked _ _) rfl, fun _ => rfl⟩ fun _ => rfl) ?_
    exact at' found
  | waitExpired key p n i r w found claim => exact hs.endClaim (at' found) (List.mem_of_find?_eq_some claim) _
  | evicted p => exact hs.evict table.1 records ports (.inr (evicts p rfl))
  | captured g at' =>
    exact hs.same (.of_ports rfl) fun p => State.bag_congr (fun _ => rfl) fun g' => by
      rw [State.setGroup_groups, vector_set_at]
      split
      · subst g'
        exact tagsOfSyncs_map (h := fun w => { w with captured := true }) (fun _ => rfl) (fun _ => rfl) _ p
      · rfl
  | committed g noted => exact hs.commitGroup g noted
  | faulted g => exact (hs.answerSyncs g _ _).calm (.deviceNotice _ _ _) fun i => by simp

end Sys2Proof.Machine
end

section
/-! PROOFS. Every step keeps each port's parked count and reserved entries those of its parked requests and of its
request in progress (O9). -/

namespace Sys2Proof.Machine

variable {s t u : State} {i : Slot} {g : GroupId} {p q v : PortId} {r : Record} {f : RequestFrame} {c : Instr}
  {a : ActiveRewrite} {E E' : PortId → Prop} {own : PortId → Multiset Tag}

/-! ### The invariant as accounts -/

/-- R149, R175: an eviction event of the port is still to end. -/
def State.evicting (s : State) (p : PortId) : Prop := Event.eviction p ∈ s.waiting

/-- R147: the tag of the port's request in progress. -/
def State.ownTag (s : State) (p : PortId) : Multiset Tag := ((s.request p).map RequestFrame.tag).toList

theorem parkedSound_iff :
    ParkedSound s ↔ Accounts s s.evicting 0 s.ownTag ∧ (s.phase ≠ .running → ∀ p, s.bag p = 0) := by
  have none (p : PortId) : s.parkedTags p = [] ↔ s.bag p = 0 := by
    rw [← State.coe_parkedTags]
    exact (Multiset.coe_eq_zero _).symm
  have length (p : PortId) : (s.parkedTags p).length = (s.bag p).card := by
    rw [← State.coe_parkedTags]
    exact (Multiset.coe_card _).symm
  have perm (p : PortId) : s.ports[p].reserved.Perm (s.parkedTags p ++ ((s.request p).map RequestFrame.tag).toList)
      ↔ (s.ports[p].reserved : Multiset Tag) = s.bag p + s.ownTag p := by
    rw [← Multiset.coe_eq_coe, ← Multiset.coe_add, State.coe_parkedTags]
    rfl
  constructor
  · refine fun h => ⟨⟨fun p => ?_, fun p e => ?_, fun p e => ?_⟩, fun off p => ?_⟩
    · rw [(h p).1, length, Pi.zero_apply, add_zero]
    · exact (if_pos e).mp (h p).2.1
    · rw [Pi.zero_apply, add_zero, ← perm]
      exact (if_neg e).mp (h p).2.1
    · exact (none p).1 ((h p).2.2 off)
  · rintro ⟨accounts, off⟩ p
    refine ⟨?_, ?_, fun idle => (none p).2 (off idle p)⟩
    · rw [accounts.count, length, Pi.zero_apply, add_zero]
    · split
      · exact accounts.cleared p ‹_›
      · have entries := accounts.entries p ‹_›
        rw [Pi.zero_apply, add_zero, ← perm] at entries
        exact entries

theorem State.request_congr (h : t.item = s.item) (p : PortId) : t.request p = s.request p := by
  unfold State.request
  rw [h]

theorem State.waiting_congr (h : t.item = s.item) (he : t.events = s.events) : t.waiting = s.waiting := by
  unfold State.waiting State.event
  rw [h, he]

theorem ParkedSound.same (h : ParkedSound s) (work : SameWork s t) (bag : ∀ p, t.bag p = s.bag p)
    (phase : s.phase = .running → t.phase = .running)
    (waits : ∀ p, Event.eviction p ∈ t.waiting ↔ Event.eviction p ∈ s.waiting) (item : t.item = s.item) :
    ParkedSound t := by
  obtain ⟨accounts, off⟩ := parkedSound_iff.1 h
  have evicting : t.evicting = s.evicting := funext fun p => propext (waits p)
  have own : t.ownTag = s.ownTag := funext fun p => by unfold State.ownTag; rw [State.request_congr item]
  refine parkedSound_iff.2 ⟨?_, fun idle p => ?_⟩
  · rw [evicting, own]
    exact accounts.same work bag
  · rw [bag]
    exact off (fun running => idle (phase running)) p

theorem ParkedSound.calm (h : ParkedSound s) (calm : Calm s t) (slots : t.slots = s.slots) (phase : t.phase = s.phase)
    (item : t.item = s.item) (events : t.events = s.events) : ParkedSound t :=
  h.same calm.1 (fun _ => State.bag_congr (fun i => by rw [slots]) fun g => by rw [calm.2]) (fun e => phase.trans e)
    (fun p => by rw [State.waiting_congr item events]) item

/-! ### Taking a client and ending an item -/

theorem State.ownTag_none (h : ∀ p, s.request p = none) : s.ownTag = 0 := funext fun p => by
  unfold State.ownTag
  rw [h]
  rfl

theorem State.ownTag_idle (h : s.item = none) : s.ownTag = 0 :=
  State.ownTag_none fun p => by rw [State.request, h]

theorem State.ownTag_request (h : s.request p = some f) : s.ownTag = single p f.tag := funext fun q => by
  have served := State.request_iff.1 h
  unfold State.ownTag
  by_cases e : p = q
  · subst q
    rw [h, single_self]
    rfl
  · have none : s.request q = none := Option.eq_none_iff_forall_ne_some.2 fun f' hf => by
      have same := (State.request_iff.1 hf).symm.trans served
      cases same
      exact e rfl
    rw [none, single_other e]
    rfl

theorem ParkedSound.engaged (h : ParkedSound s) : ParkedSound s.engaged := by
  cases hi : s.item with
  | some x => rwa [State.engaged_busy (by rw [hi]; nofun)]
  | none =>
    cases hc : s.client with
    | none => rwa [State.engaged_idle hc]
    | some c =>
      obtain ⟨accounts, off⟩ := parkedSound_iff.1 h
      rw [State.ownTag_idle hi] at accounts
      have waits : s.engaged.evicting = s.evicting := by
        unfold State.evicting
        rw [State.engaged_waiting]
      have bag (p : PortId) : s.engaged.bag p = s.bag p := State.bag_congr (fun i => by simp) fun g => by simp
      refine parkedSound_iff.2 ⟨?_, fun idle p => (bag p).trans (off (by simpa using idle) p)⟩
      rw [waits]
      cases c with
      | event e =>
        have taken := State.engaged_event hi hc
        have own : s.engaged.ownTag = 0 := State.ownTag_none fun p => by rw [taken]; rfl
        rw [own]
        exact accounts.same (.of_ports (by rw [taken]; rfl)) bag
      | request p f =>
        have taken := State.engaged_request hi hc
        have own : s.engaged.ownTag = single p f.tag :=
          State.ownTag_request (State.request_iff.2 (by rw [taken]; rfl))
        have nobody (q : PortId) : ¬ s.evicting q := by
          have serves : s.engaged.servesRequest := by rw [taken]; exact ⟨_, rfl, p, f, rfl⟩
          obtain ⟨x, item, -⟩ | none := State.engaged_serves serves
          · rw [hi] at item; cases item
          · rw [State.engaged_waiting] at none
            unfold State.evicting
            rw [none]
            exact List.not_mem_nil
        have port (q : PortId) : s.engaged.ports[q] = if p = q then
            { s.ports[p] with requests := s.ports[p].requests.tail, reserved := s.ports[p].reserved ++ [f.tag] }
            else s.ports[q] := by
          rw [taken]
          exact vector_set_at _ _ _ _
        rw [own]
        refine ⟨fun q => ?_, fun q e => absurd e (nobody q), fun q e => ?_⟩
        · rw [port, bag, ← accounts.count]
          split
          · subst q; rfl
          · rfl
        · have entries := accounts.entries q e
          rw [Pi.zero_apply, add_zero, add_zero] at entries
          rw [port, bag, Pi.zero_apply, add_zero, ← entries]
          split
          · subst q
            rw [single_self]
            exact (Multiset.coe_add _ _).symm
          · rw [single_other ‹_›, add_zero]

theorem ParkedSound.raiseAll (h : ParkedSound s) (es : List Event) (plain : ∀ p, Event.eviction p ∉ es) :
    ParkedSound (s.raiseAll es) := by
  refine ParkedSound.engaged (s := { s with events := s.events ++ es })
    (h.same (.of_ports rfl) (fun _ => rfl) id (fun p => ?_) rfl)
  show _ ∈ s.event.toList ++ (s.events ++ es) ↔ _ ∈ s.event.toList ++ s.events
  rw [← List.append_assoc, List.mem_append]
  exact or_iff_left (plain p)

theorem ParkedSound.raise (h : ParkedSound s) (e : Event) (plain : ∀ p, e ≠ .eviction p) : ParkedSound (s.raise e) :=
  h.raiseAll [e] fun p hp => plain p (List.mem_singleton.1 hp).symm

/-- R141: the item of a client in progress ends. -/
theorem ParkedSound.finish (accounts : Accounts u E 0 0) (running : u.phase = .running)
    (still : ∀ p, Event.eviction p ∈ u.events → E p)
    (ends : ∀ p, E p → Event.eviction p ∉ u.events → u.bag p = 0) : ParkedSound u.finish := by
  refine ParkedSound.engaged (s := { u with item := none })
    (parkedSound_iff.2 ⟨⟨accounts.count, fun p e => ?_, fun p e => ?_⟩, fun off => absurd running off⟩)
  · exact accounts.cleared p (still p e)
  · rw [State.ownTag_idle rfl]
    by_cases he : E p
    · have entries := accounts.cleared p he
      have empty : State.bag { u with item := none } p = 0 := ends p he e
      rw [empty]
      show (u.ports[p].reserved : Multiset Tag) = _
      rw [entries]
      rfl
    · exact accounts.entries p he

/-- What a request or an event in progress must find. -/
abbrev ItemFinds (s : State) : Prop :=
  TableSound s ∧ RecordsSound s ∧ (∀ q : PortId, PortSound s.ports[q]) ∧ (s.item ≠ none → s.phase = .running)

theorem EventsGrow.evicting (h : EventsGrow s u) (p : PortId) :
    Event.eviction p ∈ u.events ↔ Event.eviction p ∈ s.events := by
  obtain ⟨es, e, plain⟩ := h
  rw [e, List.mem_append]
  refine or_iff_left fun hp => ?_
  obtain ⟨kind, key, q, n, same⟩ := plain _ hp
  cases same

theorem Served.parkedSound (h : Served p f s u) (hs : ParkedSound s) (finds : ItemFinds s) (hr : s.request p = some f) :
    ParkedSound u.finish := by
  obtain ⟨table, records, ports, running⟩ := finds
  obtain ⟨accounts, -⟩ := parkedSound_iff.1 hs
  rw [State.ownTag_request hr] at accounts
  have evicting (p : PortId) : Event.eviction p ∈ u.events ↔ s.evicting p := by
    rw [State.evicting, State.waiting_of_request hr]
    exact h.eventsGrow.evicting p
  exact .finish (h.accounts table records ports accounts) (h.frame.2.1.trans (running (State.item_of_request hr)))
    (fun q => (evicting q).1) fun q e left => absurd ((evicting q).2 e) left

theorem Handled.parkedSound {e : Event} (h : Handled s e u) (hs : ParkedSound s) (finds : ItemFinds s)
    (he : s.event = some e) : ParkedSound u.finish := by
  obtain ⟨table, records, ports, running⟩ := finds
  obtain ⟨accounts, -⟩ := parkedSound_iff.1 hs
  have own : s.ownTag = 0 := State.ownTag_none fun p => by
    refine Option.eq_none_iff_forall_ne_some.2 fun f hf => ?_
    have same := (State.request_iff.1 hf).symm.trans (State.event_iff.1 he)
    cases same
  rw [own] at accounts
  have evicting (p : PortId) : s.evicting p ↔ e = .eviction p ∨ Event.eviction p ∈ u.events := by
    rw [h.eventsGrow.evicting, State.evicting, State.waiting_of_event he, List.mem_cons, eq_comm]
  refine .finish (h.accounts table records ports (fun v e => (evicting v).2 (.inl e)) accounts)
    (h.frame.2.1.trans (running (State.item_of_event he))) (fun q left => (evicting q).2 (.inr left))
    fun q still left => ?_
  obtain rfl := ((evicting q).1 still).resolve_right left
  cases h with
  | discarded _ stale => exact (stale.elim (fun ⟨_, _, _, _, x⟩ => nomatch x) fun ⟨_, x⟩ => nomatch x)
  | evicted => exact State.evict_bag table.1 records q false

/-! ### The work of the Store Engine -/

theorem ParkedSound.setSyncs {x : Group} (h : ParkedSound s) (groups : t.groups = s.groups.set g x)
    (slots : t.slots = s.slots) (ports : t.ports = s.ports) (phase : t.phase = s.phase) (item : t.item = s.item)
    (events : t.events = s.events) (hx : ∀ p, tagsOfSyncs x.syncs p = tagsOfSyncs s.groups[g].syncs p) :
    ParkedSound t := by
  refine h.same (.of_ports ports) (fun p => State.bag_congr (fun i => by rw [slots]) fun g' => ?_) (fun e => phase.trans e)
    (fun p => by rw [State.waiting_congr item events]) item
  rw [groups, vector_set_at]
  split
  · subst g'; exact hx p
  · rfl

theorem ParkedSound.setGroup {x : Group} (h : ParkedSound s) (groups : t.groups = s.groups.set g x)
    (slots : t.slots = s.slots) (ports : t.ports = s.ports) (phase : t.phase = s.phase) (item : t.item = s.item)
    (events : t.events = s.events) (hx : x.syncs = s.groups[g].syncs) : ParkedSound t :=
  h.setSyncs groups slots ports phase item events fun p => by rw [hx]

theorem ParkedSound.startHead (h : ParkedSound s) : ParkedSound s.startHead := by
  unfold State.startHead
  split
  · exact h
  · rename_i g _ _
    refine ParkedSound.raise ?_ _ fun _ => ?_
    · exact h.setGroup (g := g) rfl rfl rfl rfl rfl rfl rfl
    · nofun

theorem ParkedSound.resume (h : ParkedSound s) (g : GroupId) : ParkedSound (s.resume g) := by
  unfold State.resume
  split
  · exact h.setGroup (g := g) rfl rfl rfl rfl rfl rfl rfl
  all_goals exact h

theorem ParkedSound.startWork (h : ParkedSound s) : ParkedSound s.startWork := by
  unfold State.startWork
  split
  · exact h
  · split
    · exact h
    · split
      · exact h.resume _
      · exact h.startHead

theorem ParkedSound.requeueAbandoned (h : ParkedSound s) (g : GroupId) : ParkedSound (s.requeueAbandoned g) :=
  h.setSyncs (g := g) rfl rfl rfl rfl rfl rfl fun p =>
    tagsOfSyncs_map (h := fun w => { w with captured := false }) (fun _ => rfl) (fun _ => rfl) _ p

theorem ParkedSound.eqs (h : ParkedSound s) (groups : t.groups = s.groups) (slots : t.slots = s.slots)
    (ports : t.ports = s.ports) (phase : t.phase = s.phase) (item : t.item = s.item) (events : t.events = s.events) :
    ParkedSound t := h.calm (.of_eqs ports groups) slots phase item events

theorem ParkedSound.fault (h : ParkedSound s) (g : GroupId) : ParkedSound (s.fault g) := by
  refine ParkedSound.startWork (ParkedSound.raise ?_ _ fun _ => ?_)
  · exact h.setGroup (g := g) rfl rfl rfl rfl rfl rfl rfl
  · nofun

theorem ParkedSound.switch (h : ParkedSound s) (g : GroupId) (cap : Vector CapturedHome 16) :
    ParkedSound (s.switch g cap) := by
  refine ParkedSound.startWork (ParkedSound.raise ?_ _ fun _ => ?_)
  · exact h.setGroup (g := g) rfl rfl rfl rfl rfl rfl rfl
  · nofun

theorem ParkedSound.rewriteFails (h : ParkedSound s) (g : GroupId) (at' : Attempt) :
    ParkedSound (s.rewriteFails g at') := by
  unfold State.rewriteFails
  split
  · split
    · exact (h.requeueAbandoned g).eqs rfl rfl rfl rfl rfl rfl
    · exact h.setGroup (g := g) rfl rfl rfl rfl rfl rfl rfl
  · exact ParkedSound.fault (s := { s with pauseOrdered := false }) (h.eqs rfl rfl rfl rfl rfl rfl) g

theorem ParkedSound.enterPhase (h : ParkedSound s) (a : ActiveRewrite) (ph : RewritePhase) :
    ParkedSound (s.enterPhase a ph) := h.setGroup (g := a.group) rfl rfl rfl rfl rfl rfl rfl

theorem ParkedSound.suspendActive (h : ParkedSound s) (a : ActiveRewrite) : ParkedSound (s.suspendActive a) :=
  h.setGroup (g := a.group) rfl rfl rfl rfl rfl rfl rfl

theorem Reported.parkedSound (hr : Reported s a u) (h : ParkedSound s) : ParkedSound u := by
  cases hr with
  | erased =>
    exact (ParkedSound.enterPhase (s := s.setSpare a.group _) (h.eqs rfl rfl rfl rfl rfl rfl) a _).eqs
      rfl rfl rfl rfl rfl rfl
  | suspended => exact h.suspendActive a
  | paused => exact (h.suspendActive a).startHead
  | programmed =>
    exact ParkedSound.enterPhase (s := s.setSpare a.group _) (h.eqs rfl rfl rfl rfl rfl rfl) a _
  | switched => exact ParkedSound.switch (s := s.setSpare a.group _) (h.eqs rfl rfl rfl rfl rfl rfl) _ _
  | failed ph m =>
    exact ParkedSound.rewriteFails (s := { s.setSpare a.group _ with fresh := s.fresh + 1 })
      (h.eqs rfl rfl rfl rfl rfl rfl) _ _

theorem ParkedSound.abandonSuspended (h : ParkedSound s) : ParkedSound s.abandonSuspended := by
  unfold State.abandonSuspended
  split
  · exact h
  · rename_i g _
    have cut : ParkedSound (s.cutOff g) :=
      h.eqs (by simp) (by simp) (by simp) (by simp) (by simp) (by simp)
    exact (cut.requeueAbandoned g).eqs rfl rfl rfl rfl rfl rfl

theorem ParkedSound.abandonActive (h : ParkedSound s) : ParkedSound s.abandonActive := by
  unfold State.abandonActive
  split
  · exact h
  · rename_i g _
    split
    · exact (h.requeueAbandoned g).eqs rfl rfl rfl rfl rfl rfl
    · have cut : ParkedSound (s.cutOff g) :=
        h.eqs (by simp) (by simp) (by simp) (by simp) (by simp) (by simp)
      exact (cut.requeueAbandoned g).eqs rfl rfl rfl rfl rfl rfl
    all_goals exact h

/-! ### The pins, the timer and the links -/

theorem ParkedSound.deviceNotice (h : ParkedSound s) (kinds : DeviceKinds) (x : Option GroupId) :
    ParkedSound (s.deviceNotice kinds x) :=
  h.calm (.deviceNotice s kinds x) (by simp) (by simp) (by simp) (by simp)

theorem ParkedSound.modifyPort (h : ParkedSound s) {k : Port → Port}
    (quiet : (k s.ports[p]).parked = s.ports[p].parked ∧ (k s.ports[p]).reserved = s.ports[p].reserved) :
    ParkedSound (s.modifyPort p k) :=
  h.calm ⟨.setPort (q := p) quiet rfl, fun _ => rfl⟩ rfl rfl rfl rfl

theorem ParkedSound.tick (h : ParkedSound s) : ParkedSound { s.fallAllDue.tickActive with time := s.time + 1 } := by
  have fallen : ParkedSound s.fallAllDue := by
    refine ParkedSound.raiseAll (s := { s with deadlines := s.laterDeadlines }) (h.eqs rfl rfl rfl rfl rfl rfl) _
      fun p hp => ?_
    obtain ⟨d, -, e⟩ := List.mem_map.1 hp
    cases e
  have ticked : ParkedSound s.fallAllDue.tickActive := by
    unfold State.tickActive
    split
    · exact fallen
    · rename_i g _
      refine fallen.setGroup (g := g) rfl rfl rfl rfl rfl rfl ?_
      unfold Group.tick
      split <;> rfl
  exact ticked.eqs rfl rfl rfl rfl rfl rfl

theorem ParkedSound.fallDue (h : ParkedSound s) : ParkedSound s.fallDue := by
  unfold State.fallDue
  split
  · exact h
  · rename_i d rest _
    split
    · exact ParkedSound.raise (s := { s with deadlines := rest }) (h.eqs rfl rfl rfl rfl rfl rfl) _ nofun
    · exact h

theorem submitPort_parked (ready : Bool) (bytes : List Byte) (q : Port) :
    (submitPort ready bytes q).parked = q.parked ∧ (submitPort ready bytes q).reserved = q.reserved := by
  unfold submitPort
  split <;> exact ⟨rfl, rfl⟩

theorem fetchReleasePort_parked (n : Nat) (q : Port) :
    (fetchReleasePort n q).parked = q.parked ∧ (fetchReleasePort n q).reserved = q.reserved := by
  unfold fetchReleasePort
  split
  · split <;> exact ⟨rfl, rfl⟩
  all_goals exact ⟨rfl, rfl⟩

theorem fetchNoticeReleasePort_parked (n : Nat) (q : Port) :
    (fetchNoticeReleasePort n q).parked = q.parked ∧ (fetchNoticeReleasePort n q).reserved = q.reserved := by
  refine ⟨?_, (fetchNoticeReleasePort_work n q).2.1⟩
  unfold fetchNoticeReleasePort
  (repeat' split) <;> rfl

theorem LinkServed.parked {k : Port → Port} (h : LinkServed s c p k) (q : Port) : (k q).parked = q.parked := by
  cases h with
  | fetched => rfl
  | noticeFetched =>
    show (fetchNoticePort q).parked = _
    unfold fetchNoticePort
    split <;> rfl
  | peeked => rfl
  | unknown => rfl

theorem ParkedSound.submitted (h : ParkedSound s) (p : PortId) (ready : Bool) (bytes : List Byte) :
    ParkedSound (s.inBegun p (submitPort ready bytes)).engaged := by
  obtain same | ⟨-, changed⟩ := s.inBegun_cases p (submitPort ready bytes)
  · rw [same]; exact h.engaged
  · rw [changed]
    exact (h.modifyPort (submitPort_parked ready bytes _)).engaged

end Sys2Proof.Machine
end

section
/-! PROOFS. Every step keeps each port's parked count and reserved entries those of its parked requests and of its
request in progress (O9). -/

namespace Sys2Proof.Machine

variable {s t u : State} {i : Slot} {g : GroupId} {p q v : PortId} {r : Record} {c : Instr}

/-! ### Resets and restore -/

/-- Nothing is parked in a state without waiters and SYNCs. -/
theorem State.bag_empty (slots : ∀ i : Slot, Record.waiting? s.slots[i] = []) (groups : ∀ g : GroupId, s.groups[g].syncs = [])
    (p : PortId) : s.bag p = 0 := by
  unfold State.bag
  simp only [slots, groups, tagsOfClaims_nil, show tagsOfSyncs [] p = 0 from rfl, Finset.sum_const_zero, add_zero]

/-- Nothing is parked, no item is in progress, and no eviction waits. -/
theorem ParkedSound.empty (bag : ∀ p, s.bag p = 0) (item : s.item = none) (none : ∀ p, Event.eviction p ∉ s.events)
    (ports : ∀ p : PortId, s.ports[p].parked = 0 ∧ s.ports[p].reserved = []) : ParkedSound s := by
  have nobody (p : PortId) : ¬ s.evicting p := by
    rw [State.evicting, State.waiting, State.event, item]
    exact none p
  refine parkedSound_iff.2 ⟨⟨fun p => ?_, fun p e => absurd e (nobody p), fun p _ => ?_⟩, fun _ => bag⟩
  · rw [(ports p).1, bag]; rfl
  · rw [(ports p).2, bag, State.ownTag_idle item]; rfl

theorem ParkedSound.cleared (s : State) (ph : RunState) : ParkedSound (s.cleared ph) := by
  refine .empty (State.bag_empty (fun i => ?_) fun g => ?_) rfl (fun _ => List.not_mem_nil) fun p => ?_
  · have slot : (s.cleared ph).slots[i] = none := Vector.getElem_replicate _
    rw [slot]; rfl
  · have group : (s.cleared ph).groups[g] = blankGroup := Vector.getElem_replicate _
    rw [group]; rfl
  · rw [blankPorts_at]; exact ⟨rfl, rfl⟩

/-- While the part is off or held in reset nothing is parked and no entry is reserved. -/
theorem ParkedSound.quiet (h : ParkedSound s) (held : HeldSound s) (off : s.phase = .off ∨ s.phase = .reset) (p : PortId) :
    s.ports[p].parked = 0 ∧ s.ports[p].reserved = [] := by
  obtain ⟨accounts, none⟩ := parkedSound_iff.1 h
  obtain ⟨-, -, -, events, item, -⟩ := held off
  have bag : s.bag p = 0 := none (by obtain e | e := off <;> rw [e] <;> decide) p
  have nobody : ¬ s.evicting p := by
    rw [State.evicting, State.waiting, State.event, item, events]
    exact List.not_mem_nil
  have count := accounts.count p
  have entries := accounts.entries p nobody
  rw [bag] at count entries
  rw [State.ownTag_idle item] at entries
  exact ⟨count, (Multiset.coe_eq_zero _).1 entries⟩

theorem imageRecord_unheld {m : Memory} {k : Fin 16} (hr : imageRecord m g k = some r) :
    r.lease = none ∧ r.waiters = [] := by
  unfold imageRecord at hr
  split at hr
  · cases hr
  · dsimp only at hr
    split at hr
    · cases hr; exact ⟨rfl, rfl⟩
    · cases hr

/-- R111: a restored record has neither lease nor waiters. -/
theorem State.loads_unheld {h : HomeId} (hl : s.loads h r) : r.lease = none ∧ r.waiters = [] := by
  obtain ⟨g, k⟩ := h
  have image := hl.1
  cases hc : s.chosenBank g with
  | none => rw [State.storedImage_none hc] at image; cases image
  | some which =>
    rw [State.storedImage_some hc] at image
    split at image
    · cases image
    · exact imageRecord_unheld (Prod.mk.inj (Option.some.inj image)).2

theorem ParkedSound.restored (h : ParkedSound s) (held : HeldSound s) (hp : s.phase = .reset) (v0 v1 v2 v3 : Privilege) :
    ParkedSound ((s.beginRestore.sampleStraps v0 v1 v2 v3).restoreGroups (List.finRange 16)) := by
  have through := held.goesThrough hp v0 v1 v2 v3
  have group (g : GroupId) := State.restoreGroups_at (s.beginRestore.sampleStraps v0 v1 v2 v3) (List.finRange 16) g
  obtain ⟨-, -, -, events, item, -⟩ := held (.inr hp)
  refine .empty (State.bag_empty (fun i => ?_) fun g => ?_) (by simpa using item) (fun p => ?_) fun p => ?_
  · cases hr : ((s.beginRestore.sampleStraps v0 v1 v2 v3).restoreGroups (List.finRange 16)).slots[i] with
    | none => rfl
    | some r =>
      obtain ⟨h, -, -, loads⟩ := through.only i r hr
      exact (State.loads_unheld loads).2
  · rw [group, if_pos (List.mem_finRange _)]; rfl
  · have none : ((s.beginRestore.sampleStraps v0 v1 v2 v3).restoreGroups (List.finRange 16)).events = [] := by
      simpa using events
    rw [none]
    exact List.not_mem_nil
  · have ports : ((s.beginRestore.sampleStraps v0 v1 v2 v3).restoreGroups (List.finRange 16)).ports =
        (s.beginRestore.sampleStraps v0 v1 v2 v3).ports := by simp
    rw [ports, sampleStraps_at]
    exact h.quiet held (.inr hp) p

/-- R173: PRST# frees the port's entries, and its eviction is to end while the part is on. -/
theorem ParkedSound.portReset (h : ParkedSound s) (held : HeldSound s) (p : PortId) :
    ParkedSound ((s.modifyPort p prstPort).raiseEviction p) := by
  have port (q : PortId) : (s.modifyPort p prstPort).ports[q] = if p = q then prstPort s.ports[p] else s.ports[q] :=
    vector_set_at _ _ _ _
  have freed (x : State) (hp : x.ports = (s.modifyPort p prstPort).ports) (hs : x.slots = s.slots)
      (hg : x.groups = s.groups) (phase : x.phase = s.phase) (item : x.item = s.item)
      (waits : ∀ q, Event.eviction q ∈ x.waiting ↔ Event.eviction q ∈ s.waiting ∨ q = p) : ParkedSound x := by
    obtain ⟨accounts, off⟩ := parkedSound_iff.1 h
    have bag (q : PortId) : x.bag q = s.bag q := State.bag_congr (fun i => by rw [hs]) fun g => by rw [hg]
    have own : x.ownTag = s.ownTag := funext fun q => by unfold State.ownTag; rw [State.request_congr item]
    refine parkedSound_iff.2 ⟨⟨fun q => ?_, fun q e => ?_, fun q e => ?_⟩, fun idle q => ?_⟩
    · rw [hp, port, bag, ← accounts.count]
      split
      · subst q; rfl
      · rfl
    · rw [hp, port]
      split
      · rfl
      · exact accounts.cleared q (((waits q).1 e).resolve_right (Ne.symm ‹_›))
    · have other : p ≠ q := fun x => e ((waits q).2 (.inr x.symm))
      rw [hp, port, if_neg other, bag, own]
      exact accounts.entries q fun still => e ((waits q).2 (.inl still))
    · rw [bag]
      exact off (phase ▸ idle) q
  unfold State.raiseEviction
  split
  · split
    · rename_i already
      refine freed (s.modifyPort p prstPort) rfl rfl rfl rfl rfl fun q => ⟨.inl, fun e => e.elim id ?_⟩
      rintro rfl
      exact List.mem_append.2 (.inr already)
    · refine ParkedSound.engaged (freed { s.modifyPort p prstPort with events := s.events ++ [.eviction p] }
        rfl rfl rfl rfl rfl fun q => ?_)
      show _ ∈ s.event.toList ++ (s.events ++ [.eviction p]) ↔ _ ∈ s.event.toList ++ s.events ∨ q = p
      rw [← List.append_assoc, List.mem_append, List.mem_singleton]
      exact or_congr_right ⟨fun e => Event.eviction.inj e, fun e => by rw [e]⟩
  · rename_i idle
    have off : s.phase = .off ∨ s.phase = .reset := (off_or_on s).resolve_right fun on => idle on.symm
    refine h.modifyPort ⟨rfl, ?_⟩
    exact (h.quiet held off p).2.symm

/-! ### Every command -/

theorem Calm.restoreLostNotices (s : State) (gs : List GroupId) : Calm s (s.restoreLostNotices gs) := by
  induction gs generalizing s with
  | nil => exact .of_eqs rfl rfl
  | cons g gs ih =>
    refine Calm.trans ?_ (ih _)
    unfold State.restoreLostNotice
    split
    · exact .deviceNotice s _ _
    · exact .of_eqs rfl rfl

theorem Ran.parkedSound (h : Ran s c t) (base : BaseSound s) (records : RecordsSound s) (ports : PortsSound s)
    (hs : ParkedSound s) : ParkedSound t := by
  obtain ⟨held, table⟩ := base
  have finds : ItemFinds s := ⟨table, records, ports.1, ports.2.1⟩
  cases h with
  | idle => exact hs
  | request _ p f u row item served => exact served.parkedSound hs finds item
  | event _ e u row item handled => exact handled.parkedSound hs finds item
  | reset => exact .cleared _ _
  | powerLost => exact .cleared _ _
  | restored v0 v1 v2 v3 phase => exact hs.restored held phase v0 v1 v2 v3
  | restoreEnded =>
    have lost := hs.calm (.restoreLostNotices s (List.finRange 16)) (by simp) (by simp) (by simp) (by simp)
    have warned : ParkedSound (s.restoreLostNotices (List.finRange 16)).powerWarnSeen := by
      unfold State.powerWarnSeen
      split
      · exact lost.deviceNotice _ _
      · exact lost
    generalize (s.restoreLostNotices (List.finRange 16)).powerWarnSeen = x at warned ⊢
    exact ParkedSound.engaged (s := { x with phase := .running, pfwSeen := false })
      (warned.same (.of_ports rfl) (fun _ => rfl) (fun _ => rfl) (fun _ => Iff.rfl) rfl)
  | portReset p => exact hs.portReset held p
  | portReleased p => exact hs.modifyPort ⟨rfl, rfl⟩
  | pfwServing running level =>
    have pfw : ParkedSound { s with pfw := true } := hs.eqs rfl rfl rfl rfl rfl rfl
    exact pfw.abandonSuspended.abandonActive.deviceNotice _ _
  | pfwEarly => exact hs.eqs rfl rfl rfl rfl rfl rfl
  | pfwReleased => exact hs.eqs rfl rfl rfl rfl rfl rfl
  | ticked => exact hs.tick
  | fellDue => exact hs.fallDue
  | begun p => exact hs.modifyPort ⟨rfl, rfl⟩
  | submitted p bytes => exact hs.submitted p _ bytes
  | fetchReleased p n => exact (hs.modifyPort (fetchReleasePort_parked n _)).engaged
  | noticeReleased p n => exact hs.modifyPort (fetchNoticeReleasePort_parked n _)
  | link _ p k linked begun served => exact hs.modifyPort ⟨served.parked _, (served.work _).2.1⟩
  | started => exact hs.startWork
  | report _ a u row reported => exact reported.parkedSound hs

/-- Settles O9: what an item, and every other command, makes of the parked requests stands in the accounts. -/
theorem stepKeepsParkedSound : Obligations.StepKeepsParkedSound := fun _ _ hs h =>
  step_keeps (P := fun s => BaseSound s ∧ RecordsSound s ∧ PortsSound s ∧ ParkedSound s) (fun _ _ h => h)
    (fun _ _ _ ran ⟨base, records, ports, parked⟩ =>
      ⟨ran.baseSound base, ran.recordsSound records, ran.portsSound ports, ran.parkedSound base records ports parked⟩) hs h

end Sys2Proof.Machine
end

section
/-! PROOFS. The statement on EVICT and the eviction event (O52). -/

namespace Sys2Proof.Machine

variable {s t u : State} {i j : Slot} {g : GroupId} {p q v : PortId} {r : Record} {w : ParkedClaim} {f : RequestFrame}
  {fills : Bool} {E : PortId → Prop} {own : PortId → Multiset Tag}

/-! ### The port after many replies -/

theorem Port.fills_frame (rs : List Reply) (q : Port) :
    rs.foldl Port.fill q = { q with
      reserved := (rs.foldl Port.fill q).reserved, filled := (rs.foldl Port.fill q).filled } := by
  induction rs generalizing q with
  | nil => rfl
  | cons x rs ih =>
    rw [List.foldl_cons, ih]
    unfold Port.fill
    split <;> rfl

theorem Port.fills_sublist (rs : List Reply) (q : Port) : (rs.foldl Port.fill q).reserved.Sublist q.reserved := by
  induction rs generalizing q with
  | nil => exact .refl _
  | cons x rs ih =>
    refine (ih _).trans ?_
    unfold Port.fill
    split
    · exact List.erase_sublist
    · exact .refl _

theorem Port.fills_told (rs : List Reply) (q : Port) :
    (rs.foldl Port.fill q).notices = q.notices ∧ (rs.foldl Port.fill q).held = q.held
      ∧ (rs.foldl Port.fill q).watchCount = q.watchCount := by
  rw [Port.fills_frame]
  exact ⟨rfl, rfl, rfl⟩

/-- R181: what an eviction leaves of its port's settings, and what is gone. -/
theorem evictedPort_settings (q : Port) (rs : List Reply) (n : Nat) :
    ((evictedPort (q.dropped rs n)).watchCount = 0 ∧ (evictedPort (q.dropped rs n)).notices = [])
      ∧ (evictedPort (q.dropped rs n)).tags = q.tags ∧ (evictedPort (q.dropped rs n)).gate = q.gate
      ∧ (evictedPort (q.dropped rs n)).lastSubmit = q.lastSubmit := by
  unfold Port.dropped
  rw [Port.fills_frame]
  exact ⟨⟨rfl, rfl⟩, rfl, rfl, rfl⟩

theorem evictedPort_unanswered (q : Port) (n : Nat) :
    (evictedPort (q.dropped [] n)).requests = q.requests ∧ (evictedPort (q.dropped [] n)).filled = q.filled := ⟨rfl, rfl⟩

/-- R181: an evicted port with nothing parked. -/
theorem evictedPort_dropped (q : Port) (rs : List Reply) (n : Nat) (h : q.parked - n = 0) :
    evictedPort (q.dropped rs n) = { rs.foldl Port.fill q with
      parked := 0, watchCount := 0, notices := [], held := q.held.map fun x => { x with evicted := true } } := by
  obtain ⟨-, held, -⟩ := Port.fills_told rs q
  unfold evictedPort Port.dropped
  rw [h, held]

/-! ### What an eviction ends (R178 to R180) -/

/-- R180: the parked claims that an eviction ends, in their order. -/
def State.evictedClaims (s : State) (v : PortId) : List ParkedClaim := ((s.freed v).claimsOf v).map Prod.snd

/-- R180: the tags of the parked SYNCs that an eviction ends, in the order of their replies (log 20). -/
def State.evictedSyncs (s : State) (v : PortId) (fills : Bool) : List Tag := (s.unclaimed v fills).syncTagsOf v

theorem IndexSound.freed_held (h : IndexSound s) (hr : s.slots[i] = some r) (held : r.holder = some v) :
    ∃ n, (s.freed v).slots[i] = r.passed n ∧ ∀ w rest, r.waiters = w :: rest → (n = none ↔ w.leaseAsked = 0) :=
  State.handedOn_held (h.heldSlots_nodup v) (h.mem_heldSlots.2 ⟨r, hr, held⟩) hr

theorem IndexSound.freed_other (h : IndexSound s) (other : ∀ r ∈ s.slots[i], r.holder ≠ some v) :
    (s.freed v).slots[i] = s.slots[i] :=
  State.handedOn_other (fun hi => by obtain ⟨r, hr, held⟩ := h.mem_heldSlots.1 hi; exact other r hr held) s

theorem IndexSound.freed_told (h : IndexSound s) (records : RecordsSound s) (v : PortId) :
    s.ports[v].ToldOnly (s.freed v).ports[v] :=
  State.handedOn_told records (h.heldSlots_nodup v) fun i hi r hr => by
    obtain ⟨r', hr', held⟩ := h.mem_heldSlots.1 hi
    have same : r' = r := Option.some.inj (hr'.symm.trans hr)
    exact same ▸ held

/-- R41: a port waits for none of the records that it holds. -/
theorem RecordSound.no_own (h : RecordSound r) (held : r.holder = some v) (hw : w ∈ r.waiters) : w.port ≠ v := by
  obtain ⟨-, -, -, -, -, -, -, waits, -⟩ := h
  exact fun e => (waits w hw).1 (by rw [e, held])

/-- R179: handing on the port's holds leaves its own parked claims as they are. -/
theorem IndexSound.freed_claim (h : IndexSound s) (records : RecordsSound s) (port : w.port = v) (i : Slot) :
    (∃ r, (s.freed v).slots[i] = some r ∧ w ∈ r.waiters) ↔ ∃ r ∈ s.slots[i], w ∈ r.waiters := by
  by_cases own : ∃ r ∈ s.slots[i], r.holder = some v
  · obtain ⟨r, hr, held⟩ := own
    have hr : s.slots[i] = some r := hr
    obtain ⟨n, passed, -⟩ := h.freed_held hr held
    have no_own : ∀ w ∈ r.waiters, w.port ≠ v := fun w hw => (records i r hr).no_own held hw
    constructor
    · rintro ⟨r', hr', hw⟩
      rw [passed] at hr'
      refine absurd port (no_own w ?_)
      unfold Record.passed at hr'
      split at hr'
      · rename_i x rest e
        cases hr'
        rw [e]
        exact List.mem_cons_of_mem _ hw
      · rename_i e
        split at hr'
        · cases hr'
        · cases hr'
          exact hw
    · rintro ⟨r', hr', hw⟩
      obtain rfl : r = r' := Option.some.inj (hr.symm.trans hr')
      exact absurd port (no_own w hw)
  · rw [h.freed_other fun r hr held => own ⟨r, hr, held⟩]
    exact Iff.rfl

theorem claimsOf_inKeyOrder (h : IndexSound s) (records : RecordsSound s) (v : PortId) :
    ((s.claimsOf v).map Prod.snd).Pairwise fun a b => a.key < b.key := by
  rw [List.pairwise_map, State.claimsOf, List.pairwise_filterMap]
  refine h.inKeyOrder.imp fun {i j} before c hc d hd => ?_
  have key {i : Slot} {c : Slot × ParkedClaim}
      (hc : (s.slots[i].bind fun r => r.claimOf v).map (fun w => (i, w)) = some c) :
      ∃ r, s.slots[i] = some r ∧ c.2.key = r.key := by
    obtain ⟨w, claim, rfl⟩ := Option.map_eq_some_iff.1 hc
    obtain ⟨r, hr, claim⟩ := Option.bind_eq_some_iff.1 claim
    obtain ⟨-, -, -, -, -, -, -, waits, -⟩ := records i r hr
    exact ⟨r, hr, (waits w (List.mem_of_find?_eq_some claim)).2⟩
  obtain ⟨a, ha, ka⟩ := key hc
  obtain ⟨b, hb, kb⟩ := key hd
  rw [ka, kb]
  exact before a ha b hb

theorem State.freed_syncTags (s : State) (v q : PortId) : (s.freed v).syncTags q = s.syncTags q := by
  unfold State.syncTags State.freed
  simp only [State.handedOn_syncs]

theorem State.unclaimed_syncTags (s : State) (v q : PortId) (fills : Bool) :
    (s.unclaimed v fills).syncTags q = s.syncTags q := by
  rw [← s.freed_syncTags v q]
  unfold State.syncTags State.unclaimed
  simp

/-- Log 20: without a freed entry, the replies are in the order of the entries. -/
theorem State.syncTagsOf_sublist {rest : Multiset Tag}
    (h : (s.ports[v].reserved : Multiset Tag) = ↑(s.syncTags v) + rest) :
    (s.syncTagsOf v).Sublist s.ports[v].reserved := by
  have part : (s.syncTags v).Subperm s.ports[v].reserved := by
    rw [← Multiset.coe_le, h]
    exact Multiset.le_add_right _ _
  rw [State.syncTagsOf]
  rw [State.flatMap_groups]
  have left : (s.syncTags v).filter (fun x => !decide (x ∈ s.ports[v].reserved)) = [] :=
    List.filter_eq_nil_iff.2 fun x hx => by simpa using part.subset hx
  rw [left, List.append_nil]
  exact List.filter_sublist

theorem IndexSound.unclaimed_port (index : IndexSound s) (records : RecordsSound s) (v : PortId) (fills : Bool) :
    (s.unclaimed v fills).ports[v].reserved.Sublist s.ports[v].reserved := by
  have claims := State.evictClaims_eq ((index.freed v).claimsStand (records.freed v) v) fills
  obtain ⟨⟨-, -, -, reserved, -⟩, -⟩ := index.freed_told records v
  rw [← reserved]
  have port := congrArg (fun x : State => x.ports[v]) claims
  rw [State.unclaimed, port]
  dsimp only
  rw [vector_set_at, if_pos rfl]
  exact Port.fills_sublist _ _

theorem evictedReplies_eq (claims : List ParkedClaim) (syncs : List Tag) :
    evictedReplies claims syncs
      = claims.map (fun w => evictedReply claimCode w.tag) ++ syncs.map (evictedReply syncCode) := rfl

/-- The ports once what an eviction ends has ended. -/
theorem State.evictWork_ports (s : State) (index : IndexSound s) (records : RecordsSound s) (v : PortId) (fills : Bool) :
    (s.evictWork v fills).ports = (s.freed v).ports.set v ((s.freed v).ports[v].dropped
      (if fills then evictedReplies (s.evictedClaims v) (s.evictedSyncs v fills) else [])
      ((s.evictedClaims v).length + (s.evictedSyncs v fills).length)) := by
  have ports := congrArg State.ports (State.evictClaims_eq ((index.freed v).claimsStand (records.freed v) v) fills)
  have unclaimed : (s.unclaimed v fills).ports = (s.freed v).ports.set v ((s.freed v).ports[v].dropped
      (if fills then (s.evictedClaims v).map fun w => evictedReply claimCode w.tag else [])
      (s.evictedClaims v).length) := by
    rw [State.evictedClaims, List.map_map, List.length_map]
    exact ports
  have work : s.evictWork v fills =
      ((s.unclaimed v fills).withdrawSyncs v).evictSyncs fills v (s.evictedSyncs v fills) := by
    rw [State.evictWork, State.endHolds_eq]
    rfl
  have same : ((s.unclaimed v fills).withdrawSyncs v).ports = (s.unclaimed v fills).ports := rfl
  rw [work, State.evictSyncs_eq]
  dsimp only
  rw [same, unclaimed, vector_set_at, if_pos rfl, Vector.set_set, Port.dropped_dropped, evictedReplies_eq]
  cases fills <;> simp

/-- The ports once the work of an eviction is done. -/
theorem State.evict_ports (s : State) (index : IndexSound s) (records : RecordsSound s) (v : PortId) (fills : Bool) :
    (s.evict v fills).ports = (s.freed v).ports.set v (evictedPort ((s.freed v).ports[v].dropped
      (if fills then evictedReplies (s.evictedClaims v) (s.evictedSyncs v fills) else [])
      ((s.evictedClaims v).length + (s.evictedSyncs v fills).length))) := by
  have last : (s.evict v fills).ports
      = (s.evictWork v fills).ports.set v (evictedPort (s.evictWork v fills).ports[v]) := rfl
  rw [last, s.evictWork_ports index records, vector_set_at, if_pos rfl, Vector.set_set]

/-- A state that differs from one after an eviction in none of the fields that the last part of the work writes. -/
theorem State.eq_of_evicted {x y : State}
    (frame : (x.pending = y.pending ∧ x.phase = y.phase ∧ x.index = y.index ∧ x.homeMap = y.homeMap
      ∧ x.events = y.events ∧ x.pointer = y.pointer ∧ x.item = y.item ∧ x.time = y.time ∧ x.serial = y.serial)
      ∧ x.queue = y.queue ∧ x.active = y.active ∧ x.suspended = y.suspended ∧ x.pauseOrdered = y.pauseOrdered
      ∧ x.banks = y.banks ∧ x.pfw = y.pfw ∧ x.pfwSeen = y.pfwSeen ∧ x.fresh = y.fresh)
    (slots : x.slots = y.slots) (deadlines : x.deadlines = y.deadlines) (groups : x.groups = y.groups)
    (ports : x.ports = y.ports) : x = y := by
  obtain ⟨⟨a, b, c, d, e, f, g, h, i⟩, j, k, l, m, n, o, p, q⟩ := frame
  cases x
  cases y
  congr

section Evicting

variable (h : Accounts s E 0 own) (index : IndexSound s) (records : RecordsSound s)
  (ports : ∀ q : PortId, PortSound s.ports[q]) (told : fills = true ∨ E v)

include h index records ports told

theorem Accounts.evictedSyncs_perm : (s.evictedSyncs v fills).Perm (s.syncTags v) := by
  have perm := (h.unclaimed index records told).syncTagsOf_perm (v := v)
    ((PortsMove.unclaimed s v fills v).sound (ports v))
  rwa [State.unclaimed_syncTags] at perm

theorem Accounts.evictionEnds (E_iff : E v ↔ s.evicting v) :
    EvictionEnds s v (s.heldSlots v) (s.evictedClaims v) (s.evictedSyncs v fills) := by
  refine ⟨index.heldSlots_inKeyOrder v, fun i => index.mem_heldSlots,
    claimsOf_inKeyOrder (index.freed v) (records.freed v) v, fun w => ?_,
    h.evictedSyncs_perm index records ports told, fun free => ?_⟩
  · rw [State.evictedClaims, List.mem_map]
    constructor
    · rintro ⟨c, hc, rfl⟩
      obtain ⟨port, stands⟩ := ((index.freed v).mem_claimsOf (records.freed v)).1 hc
      exact ⟨port, c.1, (index.freed_claim records port c.1).1 stands⟩
    · rintro ⟨port, i, stands⟩
      exact ⟨(i, w), ((index.freed v).mem_claimsOf (records.freed v)).2
        ⟨port, (index.freed_claim records port i).2 stands⟩, rfl⟩
  · have claims := h.unclaimed index records told
    refine List.Sublist.trans (State.syncTagsOf_sublist (rest :=
      (∑ i : Slot, tagsOfClaims (Record.waiting? (s.unclaimed v fills).slots[i]) v) + own v) ?_)
      (index.unclaimed_port records v fills)
    rw [claims.entries v fun e => free (E_iff.1 e), State.coe_syncTags, State.bag]
    show _ + _ + (0 : Multiset Tag) + own v = _
    abel

/-- R180, R182: all that an eviction ends, with its replies under EVICT alone. -/
theorem Accounts.evict_after : s.evict v fills = s.afterEviction v (s.heldSlots v) (s.evictedClaims v)
    (if fills then evictedReplies (s.evictedClaims v) (s.evictedSyncs v fills) else []) := by
  have claims := State.evictClaims_eq ((index.freed v).claimsStand (records.freed v) v) fills
  have count := (h.evict index records ports told).count v
  rw [State.evict_bag index records] at count
  have ports := s.evict_ports index records v fills
  rw [ports, vector_set_at, if_pos rfl] at count
  generalize (if fills then evictedReplies (s.evictedClaims v) (s.evictedSyncs v fills) else []) = rs at ports count ⊢
  rw [show s.afterEviction v (s.heldSlots v) (s.evictedClaims v) rs = { s.freed v with
    slots := Vector.ofFn fun i => (s.freed v).slots[i].map fun r => r.without v
    deadlines := withoutWaits (s.freed v).deadlines (s.evictedClaims v)
    groups := Vector.ofFn fun g => { (s.freed v).groups[g] with
      syncs := (s.freed v).groups[g].syncs.filter fun w => decide (w.port ≠ v) }
    ports := (s.freed v).ports.set v { rs.foldl Port.fill (s.freed v).ports[v] with
      parked := 0, watchCount := 0, notices := []
      held := (s.freed v).ports[v].held.map fun n => { n with evicted := true } } } from rfl]
  refine State.eq_of_evicted (by simp [State.evict_eq, State.unclaimed]) ?_ ?_ ?_ ?_
  · refine Vector.ext fun i hi => ?_
    rw [Vector.getElem_ofFn]
    exact State.evict_at index records v fills ⟨i, hi⟩
  · have deadlines := congrArg State.deadlines claims
    rw [State.evict_eq]
    simpa [State.unclaimed, State.evictedClaims] using deadlines
  · refine Vector.ext fun g hg => ?_
    rw [Vector.getElem_ofFn]
    exact State.evict_group s v fills ⟨g, hg⟩
  · rw [ports, evictedPort_dropped _ _ _ count]

end Evicting

/-! ### What an eviction has made of the table and the port -/

theorem Record.passed_waiting {rest : List ParkedClaim} (e : r.waiters = w :: rest) (n : Option Serial) :
    r.passed n = some { r with holder := some w.port, holdCount := 1, lease := n, waiters := rest } := by
  unfold Record.passed
  rw [e]

theorem Record.passed_live (e : r.waiters = []) (live : r.state = .live) (n : Option Serial) :
    r.passed n = some { r with holder := none, holdCount := 0, lease := none } := by
  unfold Record.passed
  rw [e]
  exact if_neg (by rw [live]; decide)

theorem Record.passed_retiring (e : r.waiters = []) (retiring : r.state = .retiring) (n : Option Serial) :
    r.passed n = none := by
  unfold Record.passed
  rw [e]
  exact if_pos retiring

/-- R179: after a hold of the port's has been handed on, the port holds the record no longer. -/
theorem RecordSound.passed_holder (h : RecordSound r) (held : r.holder = some v) {n : Option Serial} {x : Record}
    (hx : r.passed n = some x) : x.holder ≠ some v := by
  cases e : r.waiters with
  | nil =>
    cases st : r.state with
    | live =>
      rw [Record.passed_live e st] at hx
      cases hx
      nofun
    | retiring => rw [Record.passed_retiring e st] at hx; cases hx
  | cons w rest =>
    rw [Record.passed_waiting e] at hx
    cases hx
    exact fun same => h.no_own held (by rw [e]; exact List.mem_cons_self ..) (Option.some.inj same)

theorem IndexSound.evicted (index : IndexSound s) (records : RecordsSound s) (v : PortId) (fills : Bool) :
    Evicted s (s.evict v fills) v := by
  have at' := State.evict_at index records v fills
  have sync (g : GroupId) : (s.freed v).groups[g].syncs = s.groups[g].syncs := State.handedOn_syncs s _ g
  obtain ⟨-, tags, gate, last, -⟩ := index.freed_told records v
  have port : (s.evict v fills).ports[v] = evictedPort ((s.freed v).ports[v].dropped
      (if fills then evictedReplies (s.evictedClaims v) (s.evictedSyncs v fills) else [])
      ((s.evictedClaims v).length + (s.evictedSyncs v fills).length)) := by
    rw [s.evict_ports index records, vector_set_at, if_pos rfl]
  generalize (if fills then evictedReplies (s.evictedClaims v) (s.evictedSyncs v fills) else []) = rs at port
  have settings := evictedPort_settings (s.freed v).ports[v] rs
    ((s.evictedClaims v).length + (s.evictedSyncs v fills).length)
  rw [← port, tags, gate, last] at settings
  obtain ⟨⟨noWatches, noNotices⟩, sameTags, sameGate, sameLast⟩ := settings
  refine ⟨fun i x hx => ?_, fun i r hr other => ?_, fun i r hr held waits live => ?_, fun i r hr held waits retiring => ?_,
    fun i r hr held w rest waits => ?_, fun i none => ?_, fun g => ?_, noWatches, noNotices, sameTags, sameGate, sameLast⟩
  · rw [at'] at hx
    obtain ⟨r, hr, rfl⟩ := Option.map_eq_some_iff.1 hx
    refine ⟨?_, fun w hw => of_decide_eq_true (List.mem_filter.1 hw).2, (vector_set_at _ _ _ _).trans (if_pos rfl)⟩
    show r.holder ≠ some v
    by_cases own : ∃ r' ∈ s.slots[i], r'.holder = some v
    · obtain ⟨r', hr', held⟩ := own
      obtain ⟨n, passed, -⟩ := index.freed_held hr' held
      exact (records i r' hr').passed_holder held (passed.symm.trans hr)
    · rw [index.freed_other fun r hr held => own ⟨r, hr, held⟩] at hr
      exact fun held => own ⟨r, hr, held⟩
  · have hr : s.slots[i] = some r := hr
    rw [at', index.freed_other fun r' hr' => by rw [show r' = r from Option.some.inj (hr'.symm.trans hr)]; exact other, hr]
    rfl
  · obtain ⟨n, passed, -⟩ := index.freed_held hr held
    rw [at', passed, Record.passed_live waits live, Option.map_some, Record.without, waits]
    rfl
  · obtain ⟨n, passed, -⟩ := index.freed_held hr held
    rw [at', passed, Record.passed_retiring waits retiring]
    rfl
  · obtain ⟨n, passed, asked⟩ := index.freed_held hr held
    refine ⟨n, ?_, asked w rest waits⟩
    have others : rest.filter (fun w => decide (w.port ≠ v)) = rest := List.filter_eq_self.2 fun x hx =>
      decide_eq_true ((records i r hr).no_own held (by rw [waits]; exact List.mem_cons_of_mem _ hx))
    rw [at', passed, Record.passed_waiting waits, Option.map_some, Record.without]
    dsimp only
    rw [others]
  · rw [at', index.freed_other fun r (hr : s.slots[i] = some r) => absurd (none.symm.trans hr) nofun, none]
    rfl
  · rw [State.evict_group, sync]

/-- A reply to another request leaves what the eviction has made. -/
theorem Evicted.answer (h : Evicted s u v) (p : PortId) (f : RequestFrame) (a : Answer) :
    Evicted s (u.answer p f a) v := by
  have slots : (u.answer p f a).slots = u.slots := rfl
  have groups : (u.answer p f a).groups = u.groups := rfl
  have port : (u.answer p f a).ports[v] = if p = v then u.ports[p].answered f a else u.ports[v] := vector_set_at _ _ _ _
  have kept (q : Port) := Port.fills_frame [a.reply f] q
  obtain ⟨standing, others, live, retiring, handed, free, syncs, watches, notices, tags, gate, last⟩ := h
  refine ⟨standing, others, live, retiring, handed, free, syncs, ?_⟩
  rw [port]
  split
  · subst p
    have same : u.ports[v].answered f a = [a.reply f].foldl Port.fill u.ports[v] := rfl
    rw [same, kept]
    exact ⟨watches, notices, tags, gate, last⟩
  · exact ⟨watches, notices, tags, gate, last⟩

/-! ### EVICT and the eviction event -/

theorem portOperand_ofNat (v : PortId) : portOperand (BitVec.ofNat 8 v.val) = some v := by
  have h : (BitVec.ofNat 8 v.val).toNat = v.val := by
    rw [BitVec.toNat_ofNat]
    omega
  simp [portOperand, h]

theorem portOperand_none {x : Byte} (h : 3 < x.toNat) : portOperand x = none := dif_neg (by omega)

/-- What an eviction leaves as it was. -/
theorem State.evict_rest (ht : t.pending = u.pending ∧ t.phase = u.phase ∧ t.pointer = u.pointer ∧ t.item = u.item
      ∧ t.time = u.time ∧ t.active = u.active ∧ t.suspended = u.suspended ∧ t.pauseOrdered = u.pauseOrdered
      ∧ t.banks = u.banks ∧ t.pfw = u.pfw ∧ t.pfwSeen = u.pfwSeen ∧ t.fresh = u.fresh) :
    t = { u with
      slots := t.slots, index := t.index, homeMap := t.homeMap, groups := t.groups, queue := t.queue
      ports := t.ports, events := t.events, deadlines := t.deadlines, serial := t.serial } := by
  obtain ⟨a, b, c, d, e, f, g, h, i, j, k, l⟩ := ht
  cases t
  cases u
  congr

theorem exec_evict_eq (ht : Taken s p f 0x60) : exec (.evict p) s = .next (serveEvict p f s).finish :=
  congrArg Host.Outcome.next (serve_taken ht (serveEvict p))

theorem Accounts.evictReport (h : Accounts s E 0 own) (index : IndexSound s) (records : RecordsSound s)
    (ports : ∀ q : PortId, PortSound s.ports[q]) (v : PortId) :
    s.evictReport v = {
      port := v, holds := (s.heldSlots v).length, claims := (s.evictedClaims v).length
      syncs := (s.evictedSyncs v true).length, watches := (s.freed v).ports[v].watchCount
      notices := (s.freed v).ports[v].notices.length } := by
  have handed : ((s.freed v).syncTagsOf v).Perm ((s.freed v).syncTags v) :=
    Accounts.syncTagsOf_perm (h.handedOn (s.heldSlots v)) ((PortsMove.freed s v v).sound (ports v))
  have syncs : ((s.freed v).syncTagsOf v).length = (s.evictedSyncs v true).length := by
    rw [handed.length_eq, (h.evictedSyncs_perm index records ports (.inl rfl)).length_eq]
    exact congrArg List.length (s.freed_syncTags v v)
  have port : (s.evictWork v true).ports[v] = (s.freed v).ports[v].dropped
      (if true then evictedReplies (s.evictedClaims v) (s.evictedSyncs v true) else [])
      ((s.evictedClaims v).length + (s.evictedSyncs v true).length) := by
    rw [s.evictWork_ports index records, vector_set_at, if_pos rfl]
  obtain ⟨notices, -, watches⟩ := Port.fills_told
    (if true then evictedReplies (s.evictedClaims v) (s.evictedSyncs v true) else []) (s.freed v).ports[v]
  rw [State.evictReport, State.endHolds_eq, port]
  show EvictReport.mk v _ ((s.freed v).claimsOf v).length ((s.freed v).syncTagsOf v).length
    (List.foldl Port.fill _ _).watchCount (List.foldl Port.fill _ _).notices.length = _
  rw [syncs, watches, notices, State.evictedClaims, List.length_map]

/-- Settles O52: the eviction procedure part by part (R177 to R182); the order of the replies to SYNCs is log 20. -/
theorem evictionEndsAllOfThePort : Obligations.EvictionEndsAllOfThePort := by
  refine ⟨fun s p v f ht super operand index records _ ports parked => ?_, fun s p f ht => ⟨fun oper => ?_, fun super bad => ?_⟩,
    fun s v he index records _ ports parked => ?_⟩
  · obtain ⟨accounts, -⟩ := parkedSound_iff.1 parked
    have told : true = true ∨ s.evicting v := .inl rfl
    have row : serveEvict p f s = (s.evict v true).answer p f (answerWith .ok (.evict (s.evictReport v))) := by
      rw [serveEvict, if_neg (by rw [State.supervisor_iff.2 super]; decide), operand, portOperand_ofNat]
    refine ⟨_, s.heldSlots v, s.evictedClaims v, s.evictedSyncs v true,
      accounts.evictionEnds index records ports.1 told Iff.rfl, ?_, (index.evicted records v true).answer p f
        (answerWith .ok (.evict (s.evictReport v))), ?_, State.evict_rest ?_⟩
    · rw [exec_evict_eq ht, row]
    · rw [State.answer_eq, accounts.evict_after index records ports.1 told, accounts.evictReport index records ports.1 v]
      rfl
    · simp
  · refine congrArg Host.Outcome.next (serve_answers ht ?_)
    rw [serveEvict, if_pos (by rw [State.supervisor_eq_false_iff.2 oper]; rfl)]
  · refine congrArg Host.Outcome.next (serve_answers ht ?_)
    rw [serveEvict, if_neg (by rw [State.supervisor_iff.2 super]; decide), portOperand_none bad]
  · obtain ⟨accounts, -⟩ := parkedSound_iff.1 parked
    have event : s.event = some (.eviction v) := State.event_iff.2 he
    have still : s.evicting v := by
      rw [State.evicting, State.waiting_of_event event]
      exact List.mem_cons_self ..
    have told : false = true ∨ s.evicting v := .inr still
    have row : exec .evictionEvent s = .next (s.evict v false).finish := by
      show execEvictionEvent s = _
      rw [execEvictionEvent, event]
    have port : (s.evict v false).ports[v] = evictedPort ((s.freed v).ports[v].dropped []
        ((s.evictedClaims v).length + (s.evictedSyncs v false).length)) := by
      rw [s.evict_ports index records, vector_set_at, if_pos rfl, if_neg (by decide)]
    obtain ⟨⟨-, -, requests, -, filled⟩, -⟩ := index.freed_told records v
    have unanswered := evictedPort_unanswered (s.freed v).ports[v]
      ((s.evictedClaims v).length + (s.evictedSyncs v false).length)
    refine ⟨_, s.heldSlots v, s.evictedClaims v, s.evictedSyncs v false,
      accounts.evictionEnds index records ports.1 told Iff.rfl, row, index.evicted records v false,
      accounts.evict_after index records ports.1 told, State.evict_rest (by simp), ?_, ?_⟩
    · rw [port, unanswered.1, requests]
    · rw [port, unanswered.2, filled]

end Sys2Proof.Machine
end

section
/-! SUPPORT. The deadline list with the leases and the waits that it runs for (R64 to R69): what ends a lease or a wait,
and what sets one. -/

namespace Sys2Proof.Machine

variable {s t u : State} {i : Slot} {p q : PortId} {r r' : Record} {w : ParkedClaim} {N M : Nat}

/-! ### Leases and waits, and the entries that run for them -/

/-- What a deadline runs for: its kind, key, port and serial. -/
abbrev Timing := DeadlineKind × Key × PortId × Serial

def Deadline.timing (d : Deadline) : Timing := (d.kind, d.key, d.port, d.serial)

/-- The lease and the limited waits of a record. -/
def Record.Carries (r : Record) : Timing → Prop
  | (.lease, key, p, n) => r.key = key ∧ r.holder = some p ∧ r.lease = some n
  | (.wait, key, p, n) => r.key = key ∧ ∃ w ∈ r.waiters, w.port = p ∧ w.wait.serial? = some n

/-- The leases and the limited waits of the table. -/
def State.Carries (s : State) (x : Timing) : Prop := ∃ (i : Slot) (r : Record), s.slots[i] = some r ∧ r.Carries x

/-- The entries of the list and the expiry events that wait to be taken. -/
def State.later (s : State) : List Timing := s.deadlines.map Deadline.timing ++ s.events.filterMap Event.expiring?

/-- The serial of a deadline's timing. -/
def Timing.serial (x : Timing) : Serial := x.2.2.2

theorem Event.serial_eq (e : Event) : e.serial? = e.expiring?.map Timing.serial := by cases e <;> rfl

theorem filterMap_serial (es : List Event) :
    es.filterMap Event.serial? = (es.filterMap Event.expiring?).map Timing.serial := by
  rw [List.map_filterMap]
  exact List.filterMap_congr fun e _ => e.serial_eq

theorem State.usedSerials_eq (s : State) : s.usedSerials = s.later.map Timing.serial := by
  rw [State.usedSerials, State.later, List.map_append, List.map_map, ← filterMap_serial]
  rfl

/-- Serials in use and parked claims. -/
def State.load (s : State) : Nat := s.usedSerials.length + s.parkedClaims

theorem State.parkedClaims_eq (s : State) : s.parkedClaims = ∑ i : Slot, (Record.waiting? s.slots[i]).length := by
  have length (x : Option Record) : (x.map fun r => r.waiters.length).getD 0 = (Record.waiting? x).length := by
    cases x <;> rfl
  unfold State.parkedClaims
  simp only [length]
  exact (Fin.sum_univ_def _).symm

theorem State.parkedClaims_set {x : Option Record} (ht : t.slots = s.slots.set i x) :
    t.parkedClaims + (Record.waiting? s.slots[i]).length = s.parkedClaims + (Record.waiting? x).length := by
  rw [State.parkedClaims_eq, State.parkedClaims_eq, ht]
  exact sum_set s.slots i x fun y => (Record.waiting? y).length

/-- R5: no two records have one key. -/
def State.KeysDiffer (s : State) : Prop :=
  ∀ (i j : Slot) (r r' : Record), s.slots[i] = some r → s.slots[j] = some r' → r.key = r'.key → i = j

theorem IndexSound.keysDiffer (h : IndexSound s) : s.KeysDiffer := fun i j r r' hr hr' same => by
  have found := h.lookup_eq hr
  rw [same, h.lookup_eq hr'] at found
  exact (Prod.mk.inj (Option.some.inj found)).1.symm

/-- R64 to R69 within an item, except for what `ex` says, with at most `N` serials in use and claims parked. -/
structure Timed (s : State) (ex : Timing → Prop) (N : Nat) : Prop where
  apart : s.KeysDiffer
  nodup : s.usedSerials.Nodup
  near : ∀ d ∈ s.deadlines, (d.due - s.time).toNat ≤ 65535 ∧ (d.due - s.reading).toNat ≤ 65535
  order : s.deadlines.Pairwise fun d e => d.due - s.time ≤ e.due - s.time
  stands : ∀ d ∈ s.deadlines, s.Carries d.timing
  told : ∀ x, s.Carries x → ¬ ex x → x ∈ s.later
  room : s.load ≤ N

/-- What the expiry event in progress ends (R68). -/
def State.Ending (s : State) (x : Timing) : Prop := ∃ e ∈ s.event, e.expiring? = some x

/-- The expiry event in progress has left the serials in use. -/
def State.EndingApart (s : State) : Prop := ∀ x, s.Ending x → Timing.serial x ∉ s.usedSerials

theorem State.expiring_eq (s : State) :
    s.expiring = s.deadlines.map Deadline.timing ++ s.waiting.filterMap Event.expiring? := rfl

theorem State.mem_expiring (s : State) (x : Timing) : x ∈ s.expiring ↔ x ∈ s.later ∨ s.Ending x := by
  have event : x ∈ s.event.toList.filterMap Event.expiring? ↔ s.Ending x := by
    rw [List.mem_filterMap]
    simp [State.Ending]
  rw [State.expiring_eq, State.waiting, List.filterMap_append, State.later]
  simp only [List.mem_append, event]
  tauto

theorem Record.carries_lease {key : Key} {n : Serial} :
    r.Carries (.lease, key, p, n) ↔ r.key = key ∧ r.holder = some p ∧ r.lease = some n := Iff.rfl

theorem Record.carries_wait {key : Key} {n : Serial} :
    r.Carries (.wait, key, p, n) ↔ r.key = key ∧ ∃ w ∈ r.waiters, w.port = p ∧ w.wait.serial? = some n := Iff.rfl

/-- R69, R72, R73: each lease and each limited wait has its entry or its event. -/
theorem carries_expiring_iff (records : RecordsSound s) :
    (∀ i : Slot, ∀ r ∈ s.slots[i],
        (∀ n ∈ r.lease, ∃ p ∈ r.holder, (DeadlineKind.lease, r.key, p, n) ∈ s.expiring)
        ∧ ∀ w ∈ r.waiters, ∀ n ∈ w.wait.serial?, (DeadlineKind.wait, r.key, w.port, n) ∈ s.expiring)
      ↔ ∀ x, s.Carries x → x ∈ s.expiring := by
  constructor
  · rintro h ⟨kind, key, p, n⟩ ⟨i, r, hr, carries⟩
    obtain ⟨leases, waits⟩ := h i r hr
    cases kind with
    | lease =>
      obtain ⟨rfl, holder, lease⟩ := carries
      obtain ⟨p', holder', mem⟩ := leases n lease
      rw [show p = p' from Option.some.inj (holder.symm.trans holder')]
      exact mem
    | wait =>
      obtain ⟨rfl, w, hw, rfl, serial⟩ := carries
      exact waits w hw n serial
  · refine fun h i r hr => ⟨fun n lease => ?_, fun w hw n serial => h _ ⟨i, r, hr, rfl, w, hw, rfl, serial⟩⟩
    obtain ⟨-, -, -, unheld, -⟩ := records i r hr
    cases holder : r.holder with
    | none =>
      have none := (unheld holder).1
      rw [none] at lease
      cases lease
    | some p => exact ⟨p, rfl, h _ ⟨i, r, hr, rfl, holder, lease⟩⟩

/-- R66: an entry runs for a hold or a parked claim that stands under its serial. -/
theorem stands_iff {d : Deadline} :
    (∃ (i : Slot) (r : Record), s.slots[i] = some r ∧ r.key = d.key
        ∧ (d.kind = .lease → r.holder = some d.port ∧ r.lease = some d.serial)
        ∧ (d.kind = .wait → ∃ w ∈ r.waiters, w.port = d.port ∧ w.wait.serial? = some d.serial))
      ↔ s.Carries d.timing := by
  obtain ⟨kind, key, port, due, serial⟩ := d
  refine exists_congr fun i => exists_congr fun r => and_congr_right fun _ => ?_
  cases kind with
  | lease => exact ⟨fun ⟨key, lease, _⟩ => ⟨key, lease rfl⟩, fun ⟨key, lease⟩ => ⟨key, fun _ => lease, nofun⟩⟩
  | wait => exact ⟨fun ⟨key, _, wait⟩ => ⟨key, wait rfl⟩, fun ⟨key, wait⟩ => ⟨key, nofun, fun _ => wait⟩⟩

theorem State.waiting_serials (s : State) :
    (s.deadlines.map Deadline.serial ++ s.waiting.filterMap Event.serial?).Nodup
      ↔ s.usedSerials.Nodup ∧ s.EndingApart := by
  have moved : (s.deadlines.map Deadline.serial ++ s.waiting.filterMap Event.serial?).Perm
      (s.event.toList.filterMap Event.serial? ++ s.usedSerials) := by
    rw [State.waiting, List.filterMap_append, State.usedSerials, ← List.append_assoc, ← List.append_assoc]
    exact List.Perm.append_right _ List.perm_append_comm
  have ending (x : Timing) : s.Ending x ↔ x ∈ s.event.toList.filterMap Event.expiring? := by
    rw [List.mem_filterMap]
    simp [State.Ending]
  have alone : (s.event.toList.filterMap Event.serial?).Nodup := by
    cases s.event with
    | none => exact List.nodup_nil
    | some e =>
      rw [Option.toList_some, List.filterMap_cons, List.filterMap_nil]
      cases e.serial? with
      | none => exact List.nodup_nil
      | some n => exact List.nodup_singleton n
  rw [moved.nodup_iff, List.nodup_append, filterMap_serial]
  rw [filterMap_serial] at alone
  unfold State.EndingApart
  simp only [ending]
  constructor
  · rintro ⟨-, nodup, apart⟩
    exact ⟨nodup, fun x hx used => apart _ (List.mem_map.2 ⟨x, hx, rfl⟩) _ used rfl⟩
  · rintro ⟨nodup, apart⟩
    refine ⟨alone, nodup, fun a ha b hb e => ?_⟩
    obtain ⟨x, hx, rfl⟩ := List.mem_map.1 ha
    exact apart x hx (e ▸ hb)

/-- R64 to R69 in a state, with the expiry event in progress apart. -/
structure Clocked (s : State) : Prop where
  timed : Timed s s.Ending 3586
  apart : s.EndingApart
  serving : s.servesRequest → s.load ≤ 3584

theorem deadlinesSound_iff (index : IndexSound s) (records : RecordsSound s) : DeadlinesSound s ↔ Clocked s := by
  unfold DeadlinesSound
  rw [carries_expiring_iff records, State.waiting_serials]
  simp only [stands_iff, State.mem_expiring]
  constructor
  · rintro ⟨⟨nodup, apart⟩, near, order, stands, told, room, serves⟩
    exact ⟨⟨index.keysDiffer, nodup, near, order, stands, fun x hx no => (told x hx).resolve_right no, room⟩, apart, serves⟩
  · rintro ⟨⟨-, nodup, near, order, stands, told, room⟩, apart, serves⟩
    exact ⟨⟨nodup, apart⟩, near, order, stands, fun x hx => or_iff_not_imp_right.2 (told x hx), room, serves⟩

end Sys2Proof.Machine
end

section
/-! SUPPORT. The deadline list with the leases and the waits that it runs for (R64 to R69): what ends a lease or a wait,
and what sets one. -/

namespace Sys2Proof.Machine

variable {s t u : State} {i j : Slot} {p q : PortId} {r r' : Record} {w : ParkedClaim} {N M : Nat}
  {ex ex' : Timing → Prop} {x : Timing}

/-! ### Changes of the list as a whole -/

theorem State.mem_usedSerials_later (h : x ∈ s.later) : x.serial ∈ s.usedSerials := by
  rw [State.usedSerials_eq]
  exact List.mem_map.2 ⟨x, h, rfl⟩

/-- R64: a serial in use is carried once. -/
theorem Timed.later_inj (h : Timed s ex N) {y : Timing} (hx : x ∈ s.later) (hy : y ∈ s.later)
    (same : x.serial = y.serial) : x = y := by
  have nodup := h.nodup
  rw [State.usedSerials_eq] at nodup
  exact List.inj_on_of_nodup_map nodup hx hy same

theorem Timed.weaken (h : Timed s ex N) (less : ∀ x, s.Carries x → ex x → ex' x) (more : N ≤ M) : Timed s ex' M :=
  { h with told := fun x hx no => h.told x hx fun e => no (less x hx e), room := h.room.trans more }

/-- The list, the timings and the leases and waits as they were. -/
theorem Timed.keepLater (h : Timed s ex N) (keys : t.KeysDiffer) (deadlines : t.deadlines = s.deadlines)
    (later : t.later = s.later) (time : t.time = s.time) (reading : t.reading = s.reading)
    (carries : ∀ x, t.Carries x ↔ s.Carries x) (parked : t.parkedClaims + N ≤ s.parkedClaims + M) : Timed t ex M := by
  have used : t.usedSerials = s.usedSerials := by rw [State.usedSerials_eq, later, State.usedSerials_eq]
  refine ⟨keys, ?_, ?_, ?_, ?_, ?_, ?_⟩
  · rw [used]; exact h.nodup
  · rw [deadlines, time, reading]; exact h.near
  · rw [deadlines, time]; exact h.order
  · rw [deadlines]; exact fun d hd => (carries _).2 (h.stands d hd)
  · rw [later]; exact fun x hx => h.told x ((carries x).1 hx)
  · have room := h.room
    unfold State.load at room ⊢
    rw [used]
    omega

/-- The list and the table as they were. -/
theorem Timed.keep (h : Timed s ex N) (keys : t.KeysDiffer) (deadlines : t.deadlines = s.deadlines)
    (events : t.events = s.events) (time : t.time = s.time) (reading : t.reading = s.reading)
    (carries : ∀ x, t.Carries x ↔ s.Carries x) (parked : t.parkedClaims + N ≤ s.parkedClaims + M) : Timed t ex M :=
  h.keepLater keys deadlines (by rw [State.later, deadlines, events, State.later]) time reading carries parked

theorem mem_without {ds : List Deadline} {n : Serial} {d : Deadline} :
    d ∈ without ds (some n) ↔ d ∈ ds ∧ d.serial ≠ n := by
  simp [without]

theorem without_sublist (ds : List Deadline) (n : Option Serial) : (without ds n).Sublist ds := List.filter_sublist

theorem without_none (ds : List Deadline) : without ds none = ds := List.filter_eq_self.2 fun _ _ => rfl

/-- R66: a lease or a wait ends, and its entry, if it is still there, leaves the list. -/
theorem Timed.drop (h : Timed s ex N) (keys : t.KeysDiffer) (hx : s.Carries x)
    (free : ex x → x.serial ∉ s.usedSerials) (deadlines : t.deadlines = without s.deadlines (some x.serial))
    (events : t.events = s.events) (time : t.time = s.time) (reading : t.reading = s.reading)
    (carries : ∀ y, t.Carries y ↔ s.Carries y ∧ y ≠ x) (parked : t.parkedClaims + N ≤ s.parkedClaims + M) :
    Timed t ex M := by
  have fewer : t.deadlines.Sublist s.deadlines := by rw [deadlines]; exact without_sublist _ _
  have later : t.later.Sublist s.later := by
    rw [State.later, events]
    exact (fewer.map _).append (.refl _)
  have used : t.usedSerials.Sublist s.usedSerials := by
    rw [State.usedSerials_eq, State.usedSerials_eq]
    exact later.map _
  refine ⟨keys, h.nodup.sublist used, ?_, ?_, ?_, ?_, ?_⟩
  · rw [time, reading]; exact fun d hd => h.near d (fewer.subset hd)
  · rw [time]; exact h.order.sublist fewer
  · intro d hd
    rw [deadlines, mem_without] at hd
    refine (carries _).2 ⟨h.stands d hd.1, fun e => hd.2 ?_⟩
    exact congrArg Timing.serial e
  · intro y hy no
    obtain ⟨carried, ne⟩ := (carries y).1 hy
    have told := h.told y carried no
    have other : y.serial ≠ x.serial := fun same => by
      by_cases e : ex x
      · exact free e (same ▸ State.mem_usedSerials_later told)
      · exact ne (h.later_inj told (h.told x hx e) same)
    rw [State.later, deadlines, events]
    obtain old | event := List.mem_append.1 told
    · obtain ⟨d, hd, rfl⟩ := List.mem_map.1 old
      exact List.mem_append_left _ (List.mem_map.2 ⟨d, mem_without.2 ⟨hd, other⟩, rfl⟩)
    · exact List.mem_append_right _ event
  · have room := h.room
    have less := used.length_le
    unfold State.load at room ⊢
    omega

/-! ### A new entry (R63 to R67) -/

theorem due_of_reading (reading : Word) (len : Ticks) : (reading + len.setWidth 32 - reading).toNat ≤ 65535 := by
  have := len.isLt
  bv_omega

theorem due_within {time reading : Word} {len : Ticks} (h : ¬ len.toNat ≤ (time - reading).toNat) :
    (reading + len.setWidth 32 - time).toNat ≤ 65535 := by
  have := len.isLt
  bv_omega

/-- What adding a deadline makes of the list and the events: a new entry or, for a late one, its event and those of the
entries that are due. -/
theorem State.addDeadline_later (order : s.deadlines.Pairwise fun d e => d.due - s.time ≤ e.due - s.time)
    (kind : DeadlineKind) (key : Key) (q : PortId) (len : Ticks) :
    (s.addDeadline kind key q len).later.Perm ((kind, key, q, s.nextSerial) :: s.later)
      ∧ (s.addDeadline kind key q len).deadlines.Pairwise (fun d e => d.due - s.time ≤ e.due - s.time)
      ∧ ∀ d ∈ (s.addDeadline kind key q len).deadlines, d ∈ s.deadlines
        ∨ (d.timing = (kind, key, q, s.nextSerial) ∧ (d.due - s.time).toNat ≤ 65535
            ∧ (d.due - s.reading).toNat ≤ 65535) := by
  cases late : s.late len with
  | true =>
    have sub : s.laterDeadlines.Sublist s.deadlines := List.dropWhile_sublist _
    rw [State.addDeadline_late late]
    refine ⟨?_, order.sublist sub, fun d hd => .inl (sub.subset hd)⟩
    have fallen : (s.dueDeadlines.map Deadline.event).filterMap Event.expiring? = s.dueDeadlines.map Deadline.timing := by
      rw [List.filterMap_map]
      exact List.filterMap_eq_map (f := Deadline.timing) ▸ rfl
    have all : s.deadlines.map Deadline.timing
        = s.dueDeadlines.map Deadline.timing ++ s.laterDeadlines.map Deadline.timing := by
      rw [← List.map_append, State.due_append_later]
    show (s.laterDeadlines.map Deadline.timing ++ List.filterMap Event.expiring? _).Perm _
    rw [List.filterMap_append, List.filterMap_append, fallen, State.later, all]
    show (_ ++ (_ ++ _ ++ [(kind, key, q, s.nextSerial)])).Perm _
    refine Multiset.coe_eq_coe.1 ?_
    rw [← Multiset.cons_coe, ← Multiset.singleton_add]
    simp only [← Multiset.coe_add, Multiset.coe_singleton]
    abel
  | false =>
    obtain ⟨pre, post, parts, joined, before, after⟩ :=
      insertDeadline_split ⟨kind, key, q, s.reading + len.setWidth 32, s.nextSerial⟩ order
    rw [State.addDeadline_ahead late]
    dsimp only
    obtain ⟨low, high, both⟩ := List.pairwise_append.1 (parts ▸ order)
    refine ⟨?_, ?_, fun d hd => ?_⟩
    · rw [State.later, State.later]
      dsimp only
      rw [joined, parts, List.map_append, List.map_append, List.map_cons, List.append_assoc, List.append_assoc]
      exact List.perm_middle
    · rw [joined]
      exact List.pairwise_append.2 ⟨low, List.pairwise_cons.2 ⟨fun e he => BitVec.le_of_lt (after e he), high⟩,
        fun a ha b hb => (List.mem_cons.1 hb).elim (fun e => e ▸ before a ha) (both a ha b)⟩
    · rw [joined] at hd
      obtain hd | hd := List.mem_append.1 hd
      · exact .inl (parts ▸ List.mem_append_left _ hd)
      · obtain rfl | hd := List.mem_cons.1 hd
        · refine .inr ⟨rfl, ?_, ?_⟩
          · exact due_within (of_decide_eq_false late)
          · exact due_of_reading s.reading len
        · exact .inl (parts ▸ List.mem_append_right _ hd)

/-- R64, R66: a new lease or wait has its entry, or its event, under a fresh serial. -/
theorem Timed.add (h : Timed s ex N) (few : N < 4294967295) (keys : t.KeysDiffer) {kind : DeadlineKind} {key : Key}
    {len : Ticks} (deadlines : t.deadlines = (s.addDeadline kind key q len).deadlines)
    (events : t.events = (s.addDeadline kind key q len).events) (time : t.time = s.time) (reading : t.reading = s.reading)
    (carries : ∀ x, t.Carries x ↔ s.Carries x ∨ x = (kind, key, q, s.nextSerial))
    (parked : t.parkedClaims + N + 1 ≤ s.parkedClaims + M) : Timed t ex M := by
  obtain ⟨perm, order, each⟩ := State.addDeadline_later h.order kind key q len
  have room := h.room
  have later : t.later.Perm ((kind, key, q, s.nextSerial) :: s.later) := by
    rw [State.later, deadlines, events]
    exact perm
  have used : t.usedSerials.Perm (s.nextSerial :: s.usedSerials) := by
    rw [State.usedSerials_eq, State.usedSerials_eq]
    exact later.map Timing.serial
  have fresh : s.nextSerial ∉ s.usedSerials := SerialsLeft.nextSerial_fresh (by
    unfold State.load at room
    show s.usedSerials.length < 4294967295
    omega)
  refine ⟨keys, ?_, ?_, ?_, ?_, ?_, ?_⟩
  · exact used.nodup_iff.2 (List.nodup_cons.2 ⟨fresh, h.nodup⟩)
  · rw [deadlines, time, reading]
    exact fun d hd => (each d hd).elim (h.near d) And.right
  · rw [deadlines, time]; exact order
  · rw [deadlines]
    exact fun d hd => (carries _).2 ((each d hd).imp (h.stands d) And.left)
  · intro x hx no
    rw [later.mem_iff, List.mem_cons]
    exact ((carries x).1 hx).symm.imp id fun old => h.told x old no
  · have length := used.length_eq
    rw [List.length_cons] at length
    unfold State.load at room ⊢
    omega

/-! ### A change of one record -/

/-- The leases and waits of the other slots, and those of the slot that is written. -/
theorem State.carries_set {y : Option Record} (ht : t.slots = s.slots.set i y) :
    t.Carries x ↔ (∃ r', y = some r' ∧ r'.Carries x) ∨ ∃ j, i ≠ j ∧ ∃ r', s.slots[j] = some r' ∧ r'.Carries x := by
  have slot (j : Slot) : t.slots[j] = if i = j then y else s.slots[j] := by rw [ht, vector_set_at]
  constructor
  · rintro ⟨j, r', hr', carries⟩
    rw [slot] at hr'
    split at hr'
    · exact .inl ⟨r', hr', carries⟩
    · exact .inr ⟨j, ‹_›, r', hr', carries⟩
  · rintro (⟨r', hy, carries⟩ | ⟨j, ne, r', hr', carries⟩)
    · exact ⟨i, r', by rw [slot, if_pos rfl, hy], carries⟩
    · exact ⟨j, r', by rw [slot, if_neg ne, hr'], carries⟩

theorem State.carries_slot (hr : s.slots[i] = some r) :
    s.Carries x ↔ r.Carries x ∨ ∃ j, i ≠ j ∧ ∃ r', s.slots[j] = some r' ∧ r'.Carries x := by
  rw [State.carries_set (s := s) (i := i) (y := s.slots[i]) (Vector.set_eq_of_at rfl).symm, hr]
  exact or_congr_left ⟨fun ⟨r', e, carries⟩ => Option.some.inj e ▸ carries, fun carries => ⟨r, rfl, carries⟩⟩

theorem Record.Carries.key (h : r.Carries x) : x.2.1 = r.key := by
  obtain ⟨kind, key, p, n⟩ := x
  cases kind with
  | lease => exact h.1.symm
  | wait => exact h.1.symm

theorem State.KeysDiffer.set (h : s.KeysDiffer) (hr : s.slots[i] = some r) {y : Option Record}
    (hy : ∀ r' ∈ y, r'.key = r.key) (ht : t.slots = s.slots.set i y) : t.KeysDiffer := by
  have slot (j : Slot) : t.slots[j] = if i = j then y else s.slots[j] := by rw [ht, vector_set_at]
  have old (j : Slot) (r' : Record) (hr' : t.slots[j] = some r') : ∃ r'', s.slots[j] = some r'' ∧ r'.key = r''.key := by
    rw [slot] at hr'
    split at hr'
    · subst j; exact ⟨r, hr, hy r' hr'⟩
    · exact ⟨r', hr', rfl⟩
  intro j k a b ha hb same
  obtain ⟨a', ha', ka⟩ := old j a ha
  obtain ⟨b', hb', kb⟩ := old k b hb
  exact h j k a' b' ha' hb' (ka.symm.trans (same.trans kb))

/-- The record of one slot, and the two parts of the state that go with the list, as they were. -/
structure OneRecord (s t : State) (i : Slot) (y : Option Record) : Prop where
  slots : t.slots = s.slots.set i y
  time : t.time = s.time
  reading : t.reading = s.reading

theorem OneRecord.parked (h : OneRecord s t i (some r')) (hr : s.slots[i] = some r) :
    t.parkedClaims + r.waiters.length = s.parkedClaims + r'.waiters.length := by
  have sum := State.parkedClaims_set h.slots
  rw [hr] at sum
  exact sum

/-- A record with the leases and waits that it had. -/
theorem Timed.same (h : Timed s ex N) (one : OneRecord s t i (some r')) (hr : s.slots[i] = some r)
    (key : r'.key = r.key) (deadlines : t.deadlines = s.deadlines) (events : t.events = s.events)
    (carries : ∀ x, r'.Carries x ↔ r.Carries x) (waiters : r'.waiters.length + N ≤ r.waiters.length + M) :
    Timed t ex M := by
  have parked := one.parked hr
  refine h.keep (h.apart.set hr (fun _ e => Option.some.inj e ▸ key) one.slots) deadlines events one.time one.reading
    (fun x => ?_) (by omega)
  rw [State.carries_set one.slots, State.carries_slot hr]
  exact or_congr_left ⟨fun ⟨y, e, c⟩ => (carries x).1 (Option.some.inj e ▸ c), fun c => ⟨r', rfl, (carries x).2 c⟩⟩

/-- A lease or a wait of a record ends. -/
theorem Timed.dropOne (h : Timed s ex N) (one : OneRecord s t i (some r')) (hr : s.slots[i] = some r)
    (key : r'.key = r.key) (hx : r.Carries x) (free : ex x → x.serial ∉ s.usedSerials)
    (deadlines : t.deadlines = without s.deadlines (some x.serial)) (events : t.events = s.events)
    (carries : ∀ y, r'.Carries y ↔ r.Carries y ∧ y ≠ x) (waiters : r'.waiters.length + N ≤ r.waiters.length + M) :
    Timed t ex M := by
  have parked := one.parked hr
  refine h.drop (h.apart.set hr (fun _ e => Option.some.inj e ▸ key) one.slots) ⟨i, r, hr, hx⟩ free deadlines events
    one.time one.reading (fun y => ?_) (by omega)
  rw [State.carries_set one.slots, State.carries_slot hr, or_and_right]
  refine or_congr ⟨fun ⟨z, e, c⟩ => (carries y).1 (Option.some.inj e ▸ c), fun c => ⟨r', rfl, (carries y).2 c⟩⟩
    ⟨fun other => ⟨other, ?_⟩, And.left⟩
  rintro rfl
  obtain ⟨j, ne, r'', hr'', c⟩ := other
  exact ne (h.apart i j r r'' hr hr'' (hx.key.symm.trans c.key))

/-- A lease or a wait of a record begins. -/
theorem Timed.addOne (h : Timed s ex N) (few : N < 4294967295) (one : OneRecord s t i (some r'))
    (hr : s.slots[i] = some r) (key : r'.key = r.key) {kind : DeadlineKind} {k : Key} {len : Ticks}
    (deadlines : t.deadlines = (s.addDeadline kind k q len).deadlines)
    (events : t.events = (s.addDeadline kind k q len).events)
    (carries : ∀ x, r'.Carries x ↔ r.Carries x ∨ x = (kind, k, q, s.nextSerial))
    (waiters : r'.waiters.length + N + 1 ≤ r.waiters.length + M) : Timed t ex M := by
  have parked := one.parked hr
  refine h.add few (h.apart.set hr (fun _ e => Option.some.inj e ▸ key) one.slots) deadlines events
    one.time one.reading (fun x => ?_) (by omega)
  rw [State.carries_set one.slots, State.carries_slot hr, or_right_comm]
  exact or_congr_left ⟨fun ⟨y, e, c⟩ => (carries x).1 (Option.some.inj e ▸ c), fun c => ⟨r', rfl, (carries x).2 c⟩⟩

/-! ### Leases and waits of one record -/

/-- R55, R66: a lease ends. -/
theorem Timed.dropLease (h : Timed s ex N) (one : OneRecord s t i (some r')) (hr : s.slots[i] = some r)
    (key : r'.key = r.key) (holder : r.lease ≠ none → r.holder ≠ none) (lease : r'.lease = none)
    (waits : r'.waiters = r.waiters) (free : ∀ x, ex x → x.serial ∉ s.usedSerials)
    (deadlines : t.deadlines = without s.deadlines r.lease) (events : t.events = s.events) : Timed t ex N := by
  cases hl : r.lease with
  | none =>
    rw [hl, without_none] at deadlines
    refine h.same one hr key deadlines events (fun x => ?_) (by rw [waits])
    obtain ⟨kind, k, q, n⟩ := x
    cases kind with
    | lease => rw [Record.carries_lease, Record.carries_lease, lease, hl]; simp
    | wait => rw [Record.carries_wait, Record.carries_wait, key, waits]
  | some n =>
    obtain ⟨p, held⟩ := Option.ne_none_iff_exists'.1 (holder (by rw [hl]; nofun))
    rw [hl] at deadlines
    refine h.dropOne (x := (.lease, r.key, p, n)) one hr key ⟨rfl, held, hl⟩ (free _) deadlines events (fun y => ?_)
      (by rw [waits])
    obtain ⟨kind, k, q, m⟩ := y
    cases kind with
    | lease =>
      rw [Record.carries_lease, Record.carries_lease, lease, hl, held]
      constructor
      · rintro ⟨-, -, e⟩; cases e
      · rintro ⟨⟨rfl, e, e'⟩, ne⟩
        exact absurd (by rw [Option.some.inj e, Option.some.inj e']) ne
    | wait =>
      rw [Record.carries_wait, Record.carries_wait, key, waits]
      exact ⟨fun c => ⟨c, nofun⟩, And.left⟩

/-- R52, R66: a parked claim ends. -/
theorem Timed.dropWait (h : Timed s ex (N + 1)) (one : OneRecord s t i (some r')) (hr : s.slots[i] = some r)
    (key : r'.key = r.key) (apart : (r.waiters.map ParkedClaim.port).Nodup) (hw : w ∈ r.waiters)
    (holder : r'.holder = r.holder) (lease : r'.lease = r.lease) (waits : r'.waiters = r.waiters.erase w)
    (free : ∀ x, ex x → x.serial ∉ s.usedSerials)
    (deadlines : t.deadlines = without s.deadlines w.wait.serial?) (events : t.events = s.events) : Timed t ex N := by
  have length : r'.waiters.length + (N + 1) ≤ r.waiters.length + N := by
    have := List.length_erase_of_mem hw
    have := List.length_pos_of_mem hw
    rw [waits]
    omega
  have left (x : ParkedClaim) : x ∈ r'.waiters ↔ x ∈ r.waiters ∧ x.port ≠ w.port := by
    rw [waits, erase_claim apart hw, List.mem_filter, decide_eq_true_iff]
  have lone (x : ParkedClaim) (hx : x ∈ r.waiters) (same : x.port = w.port) : x = w :=
    List.inj_on_of_nodup_map apart hx hw same
  cases hn : w.wait.serial? with
  | none =>
    rw [hn, without_none] at deadlines
    refine h.same one hr key deadlines events (fun x => ?_) length
    obtain ⟨kind, k, q, n⟩ := x
    cases kind with
    | lease => rw [Record.carries_lease, Record.carries_lease, lease, key, holder]
    | wait =>
      rw [Record.carries_wait, Record.carries_wait, key]
      refine and_congr_right fun _ => ⟨fun ⟨x, hx, c⟩ => ⟨x, ((left x).1 hx).1, c⟩, fun ⟨x, hx, port, serial⟩ => ?_⟩
      refine ⟨x, (left x).2 ⟨hx, fun same => ?_⟩, port, serial⟩
      rw [lone x hx same, hn] at serial
      cases serial
  | some n =>
    rw [hn] at deadlines
    refine h.dropOne (x := (.wait, r.key, w.port, n)) one hr key ⟨rfl, w, hw, rfl, hn⟩ (free _) deadlines events
      (fun y => ?_) length
    obtain ⟨kind, k, q, m⟩ := y
    cases kind with
    | lease =>
      rw [Record.carries_lease, Record.carries_lease, lease, key, holder]
      exact ⟨fun c => ⟨c, nofun⟩, And.left⟩
    | wait =>
      rw [Record.carries_wait, Record.carries_wait, key]
      constructor
      · rintro ⟨rfl, x, hx, rfl, serial⟩
        refine ⟨⟨rfl, x, ((left x).1 hx).1, rfl, serial⟩, fun e => ((left x).1 hx).2 ?_⟩
        exact congrArg (fun y : Timing => y.2.2.1) e
      · rintro ⟨⟨rfl, x, hx, rfl, serial⟩, ne⟩
        refine ⟨rfl, x, (left x).2 ⟨hx, fun same => ne ?_⟩, rfl, serial⟩
        rw [lone x hx same] at serial ⊢
        rw [Option.some.inj (hn.symm.trans serial)]

/-- R46, R56: a holder with no lease yet is given one. -/
theorem Timed.addLease (h : Timed s ex N) (few : N < 4294967295) (one : OneRecord s t i (some r'))
    (hr : s.slots[i] = some r) (key : r'.key = r.key) {len : Ticks} (none : r.lease = none) (holder : r'.holder = some q)
    (lease : r'.lease = some s.nextSerial) (waits : r'.waiters = r.waiters)
    (deadlines : t.deadlines = (s.addDeadline .lease r.key q len).deadlines)
    (events : t.events = (s.addDeadline .lease r.key q len).events) : Timed t ex (N + 1) := by
  refine h.addOne few one hr key deadlines events (fun x => ?_) (by rw [waits]; omega)
  obtain ⟨kind, k, p, n⟩ := x
  cases kind with
  | lease =>
    rw [Record.carries_lease, Record.carries_lease, none, lease, holder, key]
    simp [eq_comm]
  | wait =>
    rw [Record.carries_wait, Record.carries_wait, key, waits]
    simp

/-- R50: a claim with a wait limit is parked. -/
theorem Timed.addWait (h : Timed s ex N) (few : N < 4294967295) (one : OneRecord s t i (some r'))
    (hr : s.slots[i] = some r) (key : r'.key = r.key) {len : Ticks} (holder : r'.holder = r.holder)
    (lease : r'.lease = r.lease) (waits : r'.waiters = r.waiters ++ [w]) (serial : w.wait.serial? = some s.nextSerial)
    (deadlines : t.deadlines = (s.addDeadline .wait r.key w.port len).deadlines)
    (events : t.events = (s.addDeadline .wait r.key w.port len).events) : Timed t ex (N + 2) := by
  refine h.addOne few one hr key deadlines events (fun x => ?_) (by rw [waits, List.length_append, List.length_singleton]; omega)
  obtain ⟨kind, k, p, n⟩ := x
  cases kind with
  | lease =>
    rw [Record.carries_lease, Record.carries_lease, lease, key, holder]
    simp
  | wait =>
    rw [Record.carries_wait, Record.carries_wait, key, waits]
    simp only [List.mem_append, List.mem_singleton, or_and_right, exists_or, exists_eq_left, serial, Option.some.injEq,
      Prod.mk.injEq, true_and, and_or_left]
    refine or_congr_right ⟨fun ⟨a, b, c⟩ => ⟨a.symm, b.symm, c.symm⟩, fun ⟨a, b, c⟩ => ⟨a.symm, b.symm, c.symm⟩⟩

/-- R50: a claim without a wait limit is parked. -/
theorem Timed.parkUnlimited (h : Timed s ex N) (one : OneRecord s t i (some r')) (hr : s.slots[i] = some r)
    (key : r'.key = r.key) (holder : r'.holder = r.holder) (lease : r'.lease = r.lease)
    (waits : r'.waiters = r.waiters ++ [w]) (serial : w.wait.serial? = none) (deadlines : t.deadlines = s.deadlines)
    (events : t.events = s.events) : Timed t ex (N + 1) := by
  refine h.same one hr key deadlines events (fun x => ?_) (by rw [waits, List.length_append, List.length_singleton]; omega)
  obtain ⟨kind, k, p, n⟩ := x
  cases kind with
  | lease => rw [Record.carries_lease, Record.carries_lease, lease, key, holder]
  | wait =>
    rw [Record.carries_wait, Record.carries_wait, key, waits]
    simp [or_and_right, exists_or, serial]

/-- A record with the lease and the waiters that it had, and the holder that it had or no lease. -/
theorem Timed.sameHold (h : Timed s ex N) (one : OneRecord s t i (some r')) (hr : s.slots[i] = some r)
    (key : r'.key = r.key) (lease : r'.lease = r.lease) (holder : r'.holder = r.holder ∨ r.lease = none)
    (waits : r'.waiters = r.waiters) (deadlines : t.deadlines = s.deadlines) (events : t.events = s.events) :
    Timed t ex N := by
  refine h.same one hr key deadlines events (fun x => ?_) (by rw [waits])
  obtain ⟨kind, k, p, n⟩ := x
  cases kind with
  | lease =>
    rw [Record.carries_lease, Record.carries_lease, lease, key]
    obtain same | none := holder
    · rw [same]
    · rw [none]; simp
  | wait => rw [Record.carries_wait, Record.carries_wait, key, waits]

theorem Record.no_carries (lease : r.lease = none) (waits : r.waiters = []) : ¬ r.Carries x := fun c => by
  obtain ⟨kind, k, p, n⟩ := x
  cases kind with
  | lease => rw [Record.carries_lease, lease] at c; cases c.2.2
  | wait =>
    obtain ⟨-, w, hw, -⟩ := c
    rw [waits] at hw
    cases hw

/-- R20: a record without lease and waiters is removed. -/
theorem Timed.freed (h : Timed s ex N) (one : OneRecord s t i none) (hr : s.slots[i] = some r) (lease : r.lease = none)
    (waits : r.waiters = []) (deadlines : t.deadlines = s.deadlines) (events : t.events = s.events) : Timed t ex N := by
  have sum := State.parkedClaims_set one.slots
  rw [hr] at sum
  have sum : t.parkedClaims + r.waiters.length = s.parkedClaims + 0 := sum
  have keys : t.KeysDiffer := h.apart.set hr (fun r' (e : none = some r') => nomatch e) one.slots
  refine h.keep keys deadlines events one.time one.reading (fun x => ?_) (by omega)
  rw [State.carries_set one.slots, State.carries_slot hr, or_iff_right (Record.no_carries lease waits)]
  refine or_iff_right fun none => ?_
  obtain ⟨_, e, _⟩ := none
  cases e

/-- R12: a new record has neither lease nor waiters. -/
theorem Timed.made (h : Timed s ex N) (one : OneRecord s t i (some r)) (empty : s.slots[i] = none) (keys : t.KeysDiffer)
    (lease : r.lease = none) (waits : r.waiters = []) (deadlines : t.deadlines = s.deadlines)
    (events : t.events = s.events) : Timed t ex N := by
  have sum := State.parkedClaims_set one.slots
  rw [empty] at sum
  have sum : t.parkedClaims + 0 = s.parkedClaims + r.waiters.length := sum
  refine h.keep keys deadlines events one.time one.reading (fun x => ?_) (by rw [waits, List.length_nil] at sum; omega)
  rw [State.carries_set one.slots]
  have old : s.Carries x ↔ ∃ j, i ≠ j ∧ ∃ r', s.slots[j] = some r' ∧ r'.Carries x := by
    refine ⟨fun ⟨j, r', hr', c⟩ => ⟨j, fun e => ?_, r', hr', c⟩, fun ⟨j, _, r', hr', c⟩ => ⟨j, r', hr', c⟩⟩
    subst e
    rw [empty] at hr'
    cases hr'
  rw [old]
  refine or_iff_right fun ⟨y, e, c⟩ => ?_
  obtain rfl := Option.some.inj e
  exact Record.no_carries lease waits c

end Sys2Proof.Machine
end

section
/-! SUPPORT. The deadline list with the leases and the waits that it runs for (R64 to R69): holds that end and parked
claims that end. -/

namespace Sys2Proof.Machine

variable {s t u : State} {i j : Slot} {p q v : PortId} {r r' : Record} {w : ParkedClaim} {N M : Nat}
  {ex : Timing → Prop} {x : Timing} {fills : Bool}

theorem State.reading_congr (item : t.item = s.item) (time : t.time = s.time) : t.reading = s.reading := by
  rw [State.reading, item, time, State.reading]

theorem State.parked_le (hr : s.slots[i] = some r) : r.waiters.length ≤ s.parkedClaims := by
  have length : (Record.waiting? s.slots[i]).length = r.waiters.length := by rw [hr]; rfl
  rw [State.parkedClaims_eq, ← length]
  exact Finset.single_le_sum (f := fun i : Slot => (Record.waiting? s.slots[i]).length) (fun _ _ => Nat.zero_le _)
    (Finset.mem_univ i)

/-- The list, the events that wait, the table and the clock as they were. -/
structure SameList (s t : State) : Prop where
  slots : t.slots = s.slots
  deadlines : t.deadlines = s.deadlines
  events : t.events = s.events
  time : t.time = s.time
  item : t.item = s.item

theorem Timed.sameList (h : Timed s ex N) (same : SameList s t) : Timed t ex N := by
  have parked : t.parkedClaims = s.parkedClaims := by rw [State.parkedClaims_eq, State.parkedClaims_eq, same.slots]
  refine h.keep (fun i j r r' hr hr' => ?_) same.deadlines same.events same.time (State.reading_congr same.item same.time)
    (fun x => ?_) (by rw [parked])
  · rw [same.slots] at hr hr'
    exact h.apart i j r r' hr hr'
  · unfold State.Carries
    rw [same.slots]

/-- No lease and no wait is excepted. -/
abbrev Told : Timing → Prop := fun _ => False

theorem Timed.ended (h : Timed s ex N) (ended : ∀ x, s.Carries x → ¬ ex x) : Timed s Told N := h.weaken ended le_rfl

/-- The leases and waits under a key are those of its record. -/
theorem State.KeysDiffer.carries (h : s.KeysDiffer) (hr : s.slots[i] = some r) (hx : s.Carries x) (key : x.2.1 = r.key) :
    r.Carries x := by
  obtain ⟨j, r', hr', carries⟩ := hx
  obtain rfl := h i j r r' hr hr' (key.symm.trans carries.key)
  obtain rfl := Option.some.inj (hr.symm.trans hr')
  exact carries

/-! ### Holds that begin and end (R46, R55 to R57) -/

theorem OneRecord.of_set (slots : t.slots = s.slots.set i (some r)) (time : t.time = s.time) (item : t.item = s.item) :
    OneRecord s t i (some r) := ⟨slots, time, State.reading_congr item time⟩

theorem State.set_slot (s : State) (i : Slot) (x : Option Record) : (s.slots.set i x)[i] = x :=
  (vector_set_at _ _ _ _).trans (if_pos rfl)

theorem State.deadlined_clock (s : State) (kind : DeadlineKind) (key : Key) (q : PortId) (len : Ticks) :
    (s.deadlined kind key q len).time = s.time ∧ (s.deadlined kind key q len).item = s.item := by
  unfold State.deadlined
  split
  · exact ⟨rfl, rfl⟩
  · exact ⟨by simp, by simp⟩

/-- R46, R47, R56, R66: a holder without a lease is given the lease asked, if any. -/
theorem Timed.leased (h : Timed s ex N) (few : N + 1 < 4294967295) {len : Ticks} (hr : s.slots[i] = some r)
    (slots : t.slots = s.slots.set i (some r')) (key : r'.key = r.key)
    (none : r.lease = none) (holder : r'.holder = some q) (lease : r'.lease = s.serialFor len)
    (waits : r'.waiters = r.waiters) (list : s.deadlined .lease r.key q len = u)
    (deadlines : t.deadlines = u.deadlines) (events : t.events = u.events) (time : t.time = u.time)
    (item : t.item = u.item) : Timed t ex (N + 1) := by
  subst list
  obtain ⟨sameTime, sameItem⟩ := s.deadlined_clock .lease r.key q len
  rw [sameTime] at time
  rw [sameItem] at item
  by_cases zero : len = 0
  · subst zero
    rw [State.deadlined_zero] at deadlines events
    rw [State.serialFor_zero, ← none] at lease
    exact (h.sameHold (.of_set slots time item) hr key lease (.inr none) waits deadlines events).weaken (fun _ _ => id)
      (Nat.le_succ _)
  · rw [State.deadlined_of_ne_zero zero] at deadlines events
    rw [State.serialFor_of_ne_zero zero] at lease
    exact h.addLease (by omega) (.of_set slots time item) hr key none holder lease waits deadlines events

/-- R55: the lease of a hold that ends has no entry any more; `ex` is at most that lease. -/
theorem Timed.unheld (h : Timed s ex N) (hr : s.slots[i] = some r) (sound : RecordSound r)
    (free : ∀ x, ex x → x.serial ∉ s.usedSerials) (of_lease : ∀ x, ex x → x.1 = .lease ∧ x.2.1 = r.key) :
    Timed { s with
      deadlines := without s.deadlines r.lease
      slots := s.slots.set i (some { r with holder := none, holdCount := 0, lease := none }) } Told N := by
  obtain ⟨-, -, -, unheld, -⟩ := sound
  have dropped := h.dropLease (t := { s with
      deadlines := without s.deadlines r.lease
      slots := s.slots.set i (some { r with holder := none, holdCount := 0, lease := none }) })
    (.of_set rfl rfl rfl) hr rfl (fun lease none => lease (unheld none).1) rfl rfl free rfl rfl
  refine dropped.ended fun x hx e => ?_
  obtain ⟨lease, key⟩ := of_lease x e
  obtain ⟨kind, k, q, n⟩ := x
  obtain rfl : kind = .lease := lease
  have carries := dropped.apart.carries (s.set_slot i _) hx key
  obtain ⟨-, none, -⟩ := carries
  cases none

theorem SameList.vacated (s : State) (r : Record) : SameList s (s.vacated r) := by
  rw [← State.vacateHome_eq]
  exact ⟨by simp, by simp, by simp, by simp, by simp⟩

theorem Timed.removed (h : Timed s ex N) (hr : s.slots[i] = some r) (lease : r.lease = none) (waits : r.waiters = []) :
    Timed (s.removed i r) ex N := by
  have vacated := h.sameList (.vacated s r)
  refine vacated.freed (i := i) ⟨?_, rfl, rfl⟩ ((congrArg (·[i]) (SameList.vacated s r).slots).trans hr) lease waits rfl rfl
  rw [(SameList.vacated s r).slots]
  rfl

/-- R55 to R57: the end of a hold, with the claim that it grants. -/
theorem Timed.passedOn (h : Timed s ex N) (few : N < 4294967295) (hr : s.slots[i] = some r) (sound : RecordSound r)
    (free : ∀ x, ex x → x.serial ∉ s.usedSerials) (of_lease : ∀ x, ex x → x.1 = .lease ∧ x.2.1 = r.key) :
    Timed (s.passedOn i r) Told N := by
  have unheld := h.unheld hr sound free of_lease
  have stands := s.set_slot i (some { r with holder := none, holdCount := 0, lease := none })
  obtain ⟨-, -, -, -, -, apart, -⟩ := sound
  have room : r.waiters.length ≤ N := by
    have load := h.room
    have parked := State.parked_le hr
    unfold State.load at load
    omega
  unfold State.passedOn
  split
  · rename_i w rest waiters
    rw [waiters] at room apart
    obtain ⟨M, rfl⟩ : ∃ M, N = M + 1 := ⟨N - 1, by rw [List.length_cons] at room; omega⟩
    have left := unheld.dropWait (w := w) (r' := { r with holder := none, holdCount := 0, lease := none, waiters := rest })
      (t := { s with
        deadlines := without (without s.deadlines r.lease) w.wait.serial?
        slots := s.slots.set i (some { r with holder := none, holdCount := 0, lease := none, waiters := rest }) })
      (.of_set (by dsimp only; rw [Vector.set_set]) rfl rfl) stands rfl (by rw [waiters]; exact apart) (by rw [waiters]; exact List.mem_cons_self)
      rfl rfl (by rw [waiters]; exact (List.erase_cons_head ..).symm) (fun _ no => no.elim) rfl rfl
    refine left.leased few (r' := { r with
        holder := some w.port, holdCount := 1, waiters := rest
        lease := State.serialFor { s with deadlines := without (without s.deadlines r.lease) w.wait.serial? }
          w.leaseAsked })
      (s.set_slot i _) ?_ rfl rfl rfl rfl rfl
      (State.deadlined_slots_ports { s with deadlines := without (without s.deadlines r.lease) w.wait.serial? } _ s.ports
        .lease r.key w.port w.leaseAsked) rfl rfl rfl rfl
    exact (Vector.set_set ..).symm
  · rename_i waiters
    have told : Timed { s with
        deadlines := without s.deadlines r.lease
        slots := s.slots.set i (some { r with holder := none, holdCount := 0, lease := none })
        ports := handed s.ports r.watchers Interest.holder (holderNotice r none) } Told N :=
      unheld.sameList ⟨rfl, rfl, rfl, rfl, rfl⟩
    dsimp only
    split
    · have gone := told.removed stands rfl waiters
      exact gone.sameList ⟨rfl, rfl, rfl, rfl, rfl⟩
    · exact told

theorem Timed.endHold (h : Timed s Told N) (few : N < 4294967295) (records : RecordsSound s) (i : Slot) :
    Timed (s.endHold i false) Told N := by
  cases hr : s.slots[i] with
  | none => rwa [State.endHold_none hr]
  | some r =>
    rw [State.endHold_eq hr]
    exact h.passedOn few hr (records i r hr) (fun _ => False.elim) fun _ => False.elim

theorem Timed.handedOn (h : Timed s Told N) (few : N < 4294967295) (records : RecordsSound s) (held : List Slot) :
    Timed (s.handedOn held) Told N := by
  induction held generalizing s with
  | nil => exact h
  | cons i held ih => rw [State.handedOn_cons]; exact ih (h.endHold few records i) (records.endHold i)

/-! ### The end of parked claims (R52) -/

/-- R52: a parked claim ends; `ex` is at most its wait. -/
theorem Timed.unparked (h : Timed s ex N) (hr : s.slots[i] = some r) (apart : (r.waiters.map ParkedClaim.port).Nodup)
    (hw : w ∈ r.waiters) (free : ∀ x, ex x → x.serial ∉ s.usedSerials)
    (of_wait : ∀ x, ex x → x.1 = .wait ∧ x.2.1 = r.key ∧ x.2.2.1 = w.port)
    (slots : t.slots = s.slots.set i (some { r with waiters := r.waiters.erase w })) (time : t.time = s.time)
    (item : t.item = s.item) (deadlines : t.deadlines = without s.deadlines w.wait.serial?)
    (events : t.events = s.events) : Timed t Told N := by
  have room : 0 < N := by
    have load := h.room
    have parked := State.parked_le hr
    have length := List.length_pos_of_mem hw
    unfold State.load at load
    omega
  obtain ⟨M, rfl⟩ : ∃ M, N = M + 1 := ⟨N - 1, by omega⟩
  have left := h.dropWait (w := w) (.of_set slots time item) hr rfl apart hw rfl rfl rfl free deadlines events
  refine (left.ended fun x hx e => ?_).weaken (fun _ _ => id) (Nat.le_succ _)
  obtain ⟨kind, key, port⟩ := of_wait x e
  obtain ⟨kind', k, q, n⟩ := x
  obtain rfl : kind' = .wait := kind
  have stands : t.slots[i] = some { r with waiters := r.waiters.erase w } := by rw [slots]; exact s.set_slot i _
  have carries := left.apart.carries stands hx key
  obtain ⟨-, y, hy, rfl, -⟩ := carries
  rw [erase_claim apart hw, List.mem_filter] at hy
  exact of_decide_eq_true hy.2 port

theorem Timed.endClaim (h : Timed s ex N) (hr : s.slots[i] = some r) (apart : (r.waiters.map ParkedClaim.port).Nodup)
    (hw : w ∈ r.waiters) (free : ∀ x, ex x → x.serial ∉ s.usedSerials)
    (of_wait : ∀ x, ex x → x.1 = .wait ∧ x.2.1 = r.key ∧ x.2.2.1 = w.port) (st : Status) :
    Timed (s.endClaim i w st) Told N := by
  obtain ⟨x, e⟩ := State.endClaim_filled hr w st
  rw [e]
  exact h.unparked hr apart hw free of_wait rfl rfl rfl rfl rfl

/-- R17, R18: the parked claims of a record end, one after another. -/
theorem Timed.unparkedAll (h : Timed s Told N) (hr : s.slots[i] = some r) (apart : (r.waiters.map ParkedClaim.port).Nodup) :
    Timed { s with
      slots := s.slots.set i (some { r with waiters := [] })
      deadlines := withoutWaits s.deadlines r.waiters } Told N := by
  obtain ⟨key, state, home, guard, value, floor, ceiling, generation, holder, count, lease, waiters, watchers⟩ := r
  induction waiters generalizing s with
  | nil =>
    dsimp only
    rw [withoutWaits_nil]
    exact h.sameList ⟨Vector.set_eq_of_at hr, rfl, rfl, rfl, rfl⟩
  | cons w rest ih =>
    have left := h.unparked (w := w) (t := { s with
        slots := s.slots.set i (some ⟨key, state, home, guard, value, floor, ceiling, generation, holder, count, lease, rest,
          watchers⟩)
        deadlines := without s.deadlines w.wait.serial? }) hr apart List.mem_cons_self (fun _ => False.elim)
      (fun _ => False.elim) (by rw [List.erase_cons_head]) rfl rfl rfl rfl
    have all := ih left (s.set_slot i _) (List.nodup_cons.1 apart).2
    dsimp only at all ⊢
    rwa [withoutWaits_cons, Vector.set_set] at all

end Sys2Proof.Machine
end

section
/-! SUPPORT. The deadline list with the leases and the waits that it runs for (R64 to R69): what every item makes of
it. -/

namespace Sys2Proof.Machine

variable {s t u : State} {i j : Slot} {p q v : PortId} {r r' : Record} {w : ParkedClaim} {N M : Nat} {f : RequestFrame}
  {ex : Timing → Prop} {x : Timing} {fills : Bool} {c : Instr}

/-! ### What leaves the list and the clock as they were -/

/-- The list, the events that wait and the clock as they were. -/
structure SameClock (s t : State) : Prop where
  deadlines : t.deadlines = s.deadlines
  events : t.events = s.events
  time : t.time = s.time
  item : t.item = s.item

theorem SameClock.changeGuard (s : State) (i : Slot) (r : Record) (g : Guard) : SameClock s (s.changeGuard i r g) :=
  ⟨by simp, by simp, by simp, by simp⟩

theorem SameClock.leaveValue (s : State) (i : Slot) (r : Record) (v : Word) : SameClock s (s.leaveValue i r v) :=
  ⟨by simp, by simp, by simp, by simp⟩

theorem SameClock.setWatch (s : State) (p : PortId) (i : Slot) (r : Record) (x : Interest) (fresh : Bool) :
    SameClock s (s.setWatch p i r x fresh) := ⟨by simp, by simp, by simp, by simp⟩

theorem SameClock.clearWatch (s : State) (p : PortId) (i : Slot) (r : Record) : SameClock s (s.clearWatch p i r) :=
  ⟨by simp, by simp, by simp, by simp⟩

theorem SameClock.install (s : State) (i : Slot) (r : Record) : SameClock s ((s.install i r).dirtyMarkOf r) :=
  ⟨by simp, by simp, by simp, by simp⟩

theorem SameList.answer (s : State) (p : PortId) (f : RequestFrame) (a : Answer) : SameList s (s.answer p f a) :=
  ⟨by simp, by simp, by simp, by simp, by simp⟩

theorem SameList.notifyHolder (s : State) (i : Slot) : SameList s (s.notifyHolder i) :=
  ⟨by simp, by simp, by simp, by simp, by simp⟩

theorem SameList.parkSync (s : State) (p : PortId) (f : RequestFrame) (g : GroupId) (captured : Bool) :
    SameList s (s.parkSync p f g captured) := ⟨by simp, by simp, by simp, by simp, by simp⟩

theorem SameList.commitGroup (s : State) (g : GroupId) (noted : List (Fin 16)) : SameList s (s.commitGroup g noted) :=
  ⟨by simp, by simp, by simp, by simp, by simp⟩

theorem SameList.answerSyncs (s : State) (g : GroupId) (which : ParkedSync → Bool) (st : Status) :
    SameList s (s.answerSyncs g which st) := ⟨by simp, by simp, by simp, by simp, by simp⟩

theorem SameList.deviceNotice (s : State) (kinds : DeviceKinds) (g : Option GroupId) :
    SameList s (s.deviceNotice kinds g) := ⟨by simp, by simp, by simp, by simp, by simp⟩

theorem SameList.evictSyncs (s : State) (v : PortId) (fills : Bool) (tags : List Tag) :
    SameList s ((s.withdrawSyncs v).evictSyncs fills v tags) := ⟨by simp, by simp, by simp, by simp, by simp⟩

theorem Timed.answer (h : Timed s ex N) (p : PortId) (f : RequestFrame) (a : Answer) : Timed (s.answer p f a) ex N :=
  h.sameList (.answer s p f a)

/-- R2 to R4: a record changes, but not its hold and its waiters. -/
theorem Timed.changed (h : Timed s ex N) (clock : SameClock s t) (hr : s.slots[i] = some r)
    (slots : t.slots = s.slots.set i (some r')) (key : r'.key = r.key) (holder : r'.holder = r.holder)
    (lease : r'.lease = r.lease) (waits : r'.waiters = r.waiters) : Timed t ex N :=
  h.sameHold (.of_set slots clock.time clock.item) hr key lease (.inl holder) waits clock.deadlines clock.events

/-- The records change, but not their keys, holds and waiters. -/
theorem Timed.mapped (h : Timed s ex N) (clock : SameClock s t) (k : Record → Record)
    (slots : ∀ i : Slot, t.slots[i] = s.slots[i].map k)
    (same : ∀ r, (k r).key = r.key ∧ (k r).holder = r.holder ∧ (k r).lease = r.lease ∧ (k r).waiters = r.waiters) :
    Timed t ex N := by
  have stands {i : Slot} {r' : Record} (hr' : t.slots[i] = some r') : ∃ r, s.slots[i] = some r ∧ k r = r' := by
    rw [slots] at hr'
    exact Option.map_eq_some_iff.1 hr'
  have carries (r : Record) (x : Timing) : (k r).Carries x ↔ r.Carries x := by
    obtain ⟨key, holder, lease, waits⟩ := same r
    obtain ⟨kind, k', p, n⟩ := x
    cases kind with
    | lease => rw [Record.carries_lease, Record.carries_lease, key, holder, lease]
    | wait => rw [Record.carries_wait, Record.carries_wait, key, waits]
  have parked : t.parkedClaims = s.parkedClaims := by
    rw [State.parkedClaims_eq, State.parkedClaims_eq]
    refine Finset.sum_congr rfl fun i _ => ?_
    rw [slots]
    cases s.slots[i] with
    | none => rfl
    | some r => exact congrArg List.length (same r).2.2.2
  refine h.keep (fun i j a b ha hb key => ?_) clock.deadlines clock.events clock.time
    (State.reading_congr clock.item clock.time) (fun x => ⟨?_, ?_⟩) (by rw [parked])
  · obtain ⟨a', ha', rfl⟩ := stands ha
    obtain ⟨b', hb', rfl⟩ := stands hb
    rw [(same a').1, (same b').1] at key
    exact h.apart i j a' b' ha' hb' key
  · rintro ⟨i, r', hr', c⟩
    obtain ⟨r, hr, rfl⟩ := stands hr'
    exact ⟨i, r, hr, (carries r x).1 c⟩
  · rintro ⟨i, r, hr, c⟩
    exact ⟨i, k r, by rw [slots, hr]; rfl, (carries r x).2 c⟩

/-! ### Requests that hold (R46, R47, R71) -/

theorem Timed.grant (h : Timed s ex N) (few : N + 1 < 4294967295) (hr : s.slots[i] = some r) (sound : RecordSound r)
    (unheld : r.holder = none) (p : PortId) (len : Ticks) : Timed (s.grant i r p len) ex (N + 1) := by
  obtain ⟨-, -, -, free, -⟩ := sound
  rw [State.grant_eq]
  exact h.leased few (r' := { r with holder := some p, holdCount := 1, lease := s.serialFor len }) hr rfl rfl
    (free unheld).1 rfl rfl rfl rfl rfl rfl rfl rfl

/-- R47, R70, R71: a hold's lease is replaced; the count may have been raised before. -/
theorem Timed.setLease (h : Timed s Told N) (few : N + 1 < 4294967295) (hr : s.slots[i] = some r)
    (key : r'.key = r.key) (holder : r'.holder = some p) (same : r.holder = some p) (lease : r'.lease = r.lease)
    (waits : r'.waiters = r.waiters) (len : Ticks) : Timed (s.setLease i r' len) Told (N + 1) := by
  have dropped := h.dropLease (r' := { r' with lease := none }) (t := { s with
      deadlines := without s.deadlines r'.lease
      slots := s.slots.set i (some { r' with lease := none }) })
    (.of_set rfl rfl rfl) hr key (fun _ => by rw [same]; nofun) rfl waits (fun _ => False.elim) (by rw [lease]) rfl
  rw [State.setLease_eq holder]
  refine dropped.leased few (r' := { r' with
      lease := State.serialFor { s with deadlines := without s.deadlines r'.lease } len })
    (s.set_slot i _) ?_ rfl rfl holder rfl rfl
    (State.deadlined_slots_ports { s with deadlines := without s.deadlines r'.lease } _ s.ports .lease r'.key p len)
    rfl rfl rfl rfl
  exact (Vector.set_set ..).symm

theorem Timed.raiseHold (h : Timed s Told N) (few : N + 1 < 4294967295) (hr : s.slots[i] = some r)
    (held : r.holder = some p) (len : Ticks) : Timed (s.raiseHold i r len) Told (N + 1) := by
  unfold State.raiseHold
  dsimp only
  split
  · exact (h.changed (t := s.setSlot i (some { r with holdCount := r.holdCount + 1 })) ⟨rfl, rfl, rfl, rfl⟩ hr rfl rfl
      rfl rfl rfl).weaken (fun _ _ => id) (Nat.le_succ _)
  · exact h.setLease (r' := { r with holdCount := r.holdCount + 1 }) few hr rfl held held rfl rfl len

/-! ### A claim that parks (R50) -/

theorem Timed.parkClaim (h : Timed s ex N) (few : N < 4294967295) (hr : s.slots[i] = some r) (p : PortId)
    (f : RequestFrame) (mode : ClaimMode) : Timed (s.parkClaim p f i r mode) ex (N + 2) := by
  have unlimited (wait : s.parkWait mode = .unlimited) (added : s.addWait p r.key mode = s) :
      Timed (s.parkClaim p f i r mode) ex (N + 2) := by
    refine Timed.weaken (N := N + 1) ?_ (fun _ _ => id) (Nat.le_succ _)
    unfold State.parkClaim
    rw [added, wait]
    exact h.parkUnlimited (w := ⟨p, f.tag, r.key, claimLease f, .unlimited⟩) (.of_set rfl rfl rfl) hr rfl rfl rfl rfl rfl
      rfl rfl
  cases mode with
  | noWait => exact unlimited rfl rfl
  | waitUnlimited => exact unlimited rfl rfl
  | wait limit =>
    exact h.addWait (w := ⟨p, f.tag, r.key, claimLease f, .limited limit s.nextSerial⟩) (len := limit)
      (r' := { r with waiters := r.waiters ++ [⟨p, f.tag, r.key, claimLease f, .limited limit s.nextSerial⟩] }) few
      (.of_set (by simp [State.parkClaim, State.addWait, State.parkWait, State.setSlot, State.park, State.modifyPort])
        (by simp) (by simp)) hr rfl rfl rfl rfl rfl rfl rfl

/-! ### RETIRE (R17, R18) -/

theorem Timed.retireNow (h : Timed s Told N) (hr : s.slots[i] = some r) (sound : RecordSound r) :
    Timed (retireNow p f s i r) Told N := by
  have unheld := h.unheld hr sound (fun _ => False.elim) fun _ => False.elim
  obtain ⟨-, -, -, -, -, apart, -⟩ := sound
  have left := unheld.unparkedAll (s.set_slot i _) apart
  have stands := s.set_slot i (some { r with holder := none, holdCount := 0, lease := none, waiters := [] })
  unfold Machine.retireNow
  dsimp only
  rw [State.removeDeadline_eq, State.answerRetired_eq apart, State.remove_eq stands]
  refine Timed.answer (Timed.removed
    (r := { r with holder := none, holdCount := 0, lease := none, waiters := [] }) ?_ stands rfl rfl) p f _
  exact left.sameList ⟨(Vector.set_set _ i.isLt).symm, rfl, rfl, rfl, rfl⟩

theorem Timed.retireLater (h : Timed s Told N) (hr : s.slots[i] = some r) (sound : RecordSound r) :
    Timed (retireLater p f s i r) Told N := by
  obtain ⟨-, -, -, -, -, apart, -⟩ := sound
  have left := h.unparkedAll hr apart
  have retiring := left.changed (r' := { r with state := .retiring, waiters := [] }) (t := { s with
      slots := s.slots.set i (some { r with state := .retiring, waiters := [] })
      deadlines := withoutWaits s.deadlines r.waiters }) ⟨rfl, rfl, rfl, rfl⟩ (s.set_slot i _)
    (Vector.set_set ..).symm rfl rfl rfl rfl
  unfold Machine.retireLater
  dsimp only
  rw [State.answerRetired_eq apart, State.notifyWatchers_eq]
  refine Timed.answer ?_ p f _
  exact retiring.sameList ⟨rfl, rfl, rfl, rfl, rfl⟩

/-! ### The eviction of a port (R178) -/

theorem Timed.evictClaim (h : Timed s Told N) (hr : s.slots[i] = some r) (sound : RecordSound r) (hw : w ∈ r.waiters) :
    Timed (s.evictClaim fills (i, w)) Told N := by
  obtain ⟨-, -, -, -, -, apart, -⟩ := sound
  rw [State.evictClaim_eq hr]
  exact h.unparked hr apart hw (fun _ => False.elim) (fun _ => False.elim) rfl rfl rfl rfl rfl

theorem Timed.evictClaims {cs : List (Slot × ParkedClaim)} (h : Timed s Told N) (records : RecordsSound s)
    (stand : ClaimsStand s v cs) : Timed (s.evictClaims fills cs) Told N := by
  induction cs generalizing s with
  | nil => exact h
  | cons c cs ih =>
    obtain ⟨-, r, hr, hw⟩ := stand.2 c List.mem_cons_self
    exact ih (h.evictClaim hr (records c.1 r hr) hw) (records.evictClaims fills [c]) (stand.rest fills)

theorem Timed.evict (h : Timed s Told N) (few : N < 4294967295) (index : IndexSound s) (records : RecordsSound s)
    (v : PortId) (fills : Bool) : Timed (s.evict v fills) Told N := by
  have unclaimed : Timed (s.unclaimed v fills) Told N :=
    (h.handedOn few records _).evictClaims (records.freed v) ((index.freed v).claimsStand (records.freed v) v)
  have gone := unclaimed.sameList (.evictSyncs _ v fills ((s.unclaimed v fills).syncTagsOf v))
  rw [State.evict_eq]
  exact gone.mapped ⟨by simp, by simp, by simp, by simp⟩ (fun r => { r with watchers := r.watchers.set v none })
    (State.dropPortWatches_at _ v) fun r => ⟨rfl, rfl, rfl, rfl⟩

/-! ### Every item -/

theorem Served.timed (h : Served p f s u) (table : TableSound s) (records : RecordsSound s) (few : N + 2 < 4294967295)
    (hs : Timed s Told N) : Timed u Told (N + 2) := by
  have at' {i r} (found : s.lookup f.key = some (i, r)) : s.slots[i] = some r := (State.lookup_some found).1
  have sound {i r} (found : s.lookup f.key = some (i, r)) : RecordSound r := records i r (at' found)
  have more : Timed s Told (N + 2) := hs.weaken (fun _ _ => id) (by omega)
  have one {u : State} (hu : Timed u Told (N + 1)) : Timed u Told (N + 2) := hu.weaken (fun _ _ => id) (by omega)
  cases h with
  | answered a => exact more.answer p f a
  | created i g h key absent bounds free home =>
    have keys := (table.created (p := p) (g := g) key absent free home).1.keysDiffer
    have clock := SameClock.install s i (createdRecord f.key g (createOperands f) h)
    have slots := congrArg State.slots (State.install_dirty_eq s i (createdRecord f.key g (createOperands f) h))
    refine Timed.answer (more.made (.of_set slots clock.time clock.item) (State.freeSlot_some free) ?_ rfl rfl
      clock.deadlines clock.events) p f _
    exact fun i j r r' hr hr' => keys i j r r' (by simpa [createIn] using hr) (by simpa [createIn] using hr')
  | retiredNow i r found => exact more.retireNow (at' found) (sound found)
  | retiredLater i r h found => exact more.retireLater (at' found) (sound found)
  | guarded i r g a found =>
    obtain ⟨n, slots⟩ := changeGuard_slots s (at' found) g
    exact (more.changed (.changeGuard s i r g) (at' found) slots rfl rfl rfl rfl).answer p f a
  | updated i r v a found =>
    obtain ⟨n, slots⟩ := leaveValue_slots s (at' found) v
    exact (more.changed (.leaveValue s i r v) (at' found) slots rfl rfl rfl rfl).answer p f a
  | granted i r len a found live unheld =>
    have granted := hs.grant (by omega) (at' found) (sound found) unheld p len
    exact (one (granted.sameList (.notifyHolder _ i))).answer p f a
  | raised i r len a found live held => exact (one (hs.raiseHold (by omega) (at' found) held len)).answer p f a
  | parked i r h mode found => exact hs.parkClaim (by omega) (at' found) p f mode
  | lowered i r n a found =>
    exact (more.changed (t := s.setSlot i (some { r with holdCount := n })) ⟨rfl, rfl, rfl, rfl⟩ (at' found) rfl rfl rfl
      rfl rfl).answer p f a
  | released i r a => exact (more.endHold few records i).answer p f a
  | renewed i r len a found held =>
    exact (one (hs.setLease (by omega) (at' found) rfl held held rfl rfl len)).answer p f a
  | cancelled i r w a found claim =>
    obtain ⟨-, -, -, -, -, apart, -⟩ := sound found
    exact (more.endClaim (at' found) apart (List.mem_of_find?_eq_some claim) (fun _ => False.elim) (fun _ => False.elim)
      .cancelled).answer p f a
  | rewatched i r x a found =>
    exact (more.changed (.setWatch s p i r x false) (at' found) (congrArg State.slots (s.setWatch_eq p i r x false)) rfl
      rfl rfl rfl).answer p f a
  | watched i r x a found =>
    exact (more.changed (.setWatch s p i r x true) (at' found) (congrArg State.slots (s.setWatch_eq p i r x true)) rfl
      rfl rfl rfl).answer p f a
  | unwatched i r a found =>
    exact (more.changed (.clearWatch s p i r) (at' found) (congrArg State.slots (s.clearWatch_eq p i r)) rfl rfl rfl
      rfl).answer p f a
  | gated g a => exact (more.sameList (t := s.modifyPort p (gatedPort f.tag g)) ⟨rfl, rfl, rfl, rfl, rfl⟩).answer p f a
  | synced g => exact more.sameList (.parkSync s p f g _)
  | promoted g => exact (more.sameList (.parkSync s p f g false)).sameList ⟨rfl, rfl, rfl, rfl, rfl⟩
  | evicted v a => exact (more.evict few table.1 records v true).answer p f a
  | cleared g a => exact (more.sameList (t := s.clearFault g) ⟨rfl, rfl, rfl, rfl, rfl⟩).answer p f a

end Sys2Proof.Machine
end

section
/-! SUPPORT. The deadline list with the leases and the waits that it runs for (R64 to R69): the items of events, and the
engine's next client. -/

namespace Sys2Proof.Machine

variable {s t u : State} {i : Slot} {p v : PortId} {r : Record} {w : ParkedClaim} {N : Nat} {e : Event}
  {x : Timing} {c : Instr}

/-! ### The rows of events -/

/-- What the item of an event makes of the state before it ends. -/
def State.acted (s : State) : Event → State
  | .expiry .lease key p n => s.expireLease key p n
  | .expiry .wait key p n => s.expireWait key p n
  | .eviction p => s.evict p false
  | .capture g => s.acceptCapture g (s.captureGroup g)
  | .committed g noted => s.commitGroup g noted
  | .faulted g => (s.answerSyncs g (fun _ => true) .storeFault).deviceNotice kindStoreFault (some g)

/-- The row of the event in progress makes its effects; any other row of an event does nothing. -/
theorem exec_event (row : c ∈ eventRows) :
    exec c s = .next s ∨ ∃ e, s.event = some e ∧ exec c s = .next (s.acted e).finish := by
  simp only [eventRows, List.mem_cons, List.not_mem_nil, or_false] at row
  rcases row with rfl | rfl | rfl | rfl | rfl | rfl
  · show execLeaseExpiry s = _ ∨ ∃ e, _ ∧ execLeaseExpiry s = _
    unfold execLeaseExpiry
    split
    · exact .inr ⟨.expiry .lease _ _ _, ‹_›, rfl⟩
    all_goals exact .inl rfl
  · show execWaitExpiry s = _ ∨ ∃ e, _ ∧ execWaitExpiry s = _
    unfold execWaitExpiry
    split
    · exact .inr ⟨.expiry .wait _ _ _, ‹_›, rfl⟩
    all_goals exact .inl rfl
  · show execEvictionEvent s = _ ∨ ∃ e, _ ∧ execEvictionEvent s = _
    unfold execEvictionEvent
    split
    · exact .inr ⟨.eviction _, ‹_›, rfl⟩
    all_goals exact .inl rfl
  · show execCaptureEvent s = _ ∨ ∃ e, _ ∧ execCaptureEvent s = _
    unfold execCaptureEvent
    split
    · exact .inr ⟨.capture _, ‹_›, rfl⟩
    all_goals exact .inl rfl
  · show execCommitEvent s = _ ∨ ∃ e, _ ∧ execCommitEvent s = _
    unfold execCommitEvent
    split
    · exact .inr ⟨.committed _ _, ‹_›, rfl⟩
    all_goals exact .inl rfl
  · show execCommitEventFaulted s = _ ∨ ∃ e, _ ∧ execCommitEventFaulted s = _
    unfold execCommitEventFaulted
    split
    · exact .inr ⟨.faulted _, ‹_›, rfl⟩
    all_goals exact .inl rfl

/-! ### The items of events (R68, R72, R73) -/

theorem State.ending_iff (he : s.event = some e) : s.Ending x ↔ e.expiring? = some x := by
  simp [State.Ending, he]

theorem SameList.capture (s : State) (g : GroupId) (cap : Vector CapturedHome 16) :
    SameList s (s.acceptCapture g cap) := by
  unfold State.acceptCapture
  split
  · exact ⟨rfl, rfl, rfl, rfl, rfl⟩
  · exact ⟨rfl, rfl, rfl, rfl, rfl⟩

theorem IndexSound.lookup_key (index : IndexSound s) {k : Key} (found : s.lookup k = some (i, r)) : r.key = k := by
  obtain ⟨hr, e, he, rfl, rfl⟩ := State.lookup_some found
  obtain ⟨-, stands, -⟩ := index
  have key := stands e he
  rw [hr] at key
  exact Option.some.inj key

/-- No lease or wait under a key without a record. -/
theorem IndexSound.no_carries (index : IndexSound s) (none : s.lookup x.2.1 = none) : ¬ s.Carries x :=
  fun ⟨i, r, hr, carries⟩ => by
    have found := index.lookup_eq hr
    rw [← carries.key, none] at found
    cases found

variable (h : Clocked s) (index : IndexSound s) (records : RecordsSound s)
include h index records

theorem Clocked.expireLease {key : Key} {n : Serial} (he : s.event = some (.expiry .lease key p n)) :
    Timed (s.expireLease key p n) Told 3586 := by
  have ending (x : Timing) : s.Ending x ↔ (.lease, key, p, n) = x := by
    rw [State.ending_iff he]
    exact Option.some_inj
  unfold State.expireLease
  split
  · rename_i none
    exact h.timed.ended fun x hx e => index.no_carries (by rw [← (ending x).1 e]; exact none) hx
  · rename_i i r found
    have hr := (State.lookup_some found).1
    have key' : r.key = key := IndexSound.lookup_key index found
    split
    · rename_i held
      rw [State.endHold_expired hr held.1]
      refine (h.timed.sameList (t := { s with ports := s.ports.set p (s.ports[p].handNotice
          (.record r.key ⟨false, false, false, false, true⟩ r.value r.generation
            (r.waiters.head?.map ParkedClaim.port))) }) ⟨rfl, rfl, rfl, rfl, rfl⟩).passedOn (by decide) hr
        (records i r hr) h.apart fun x e => ?_
      rw [← (ending x).1 e]
      exact ⟨rfl, key'.symm⟩
    · rename_i stale
      refine h.timed.ended fun x hx e => stale ?_
      rw [← (ending x).1 e] at hx
      obtain ⟨-, holder, lease⟩ := index.keysDiffer.carries hr hx key'.symm
      exact ⟨holder, lease⟩

theorem Clocked.expireWait {key : Key} {n : Serial} (he : s.event = some (.expiry .wait key p n)) :
    Timed (s.expireWait key p n) Told 3586 := by
  have ending (x : Timing) : s.Ending x ↔ (.wait, key, p, n) = x := by
    rw [State.ending_iff he]
    exact Option.some_inj
  unfold State.expireWait
  split
  · rename_i none
    exact h.timed.ended fun x hx e => index.no_carries (by rw [← (ending x).1 e]; exact none) hx
  · rename_i i r found
    have hr := (State.lookup_some found).1
    have key' : r.key = key := IndexSound.lookup_key index found
    obtain ⟨-, -, -, -, -, apart, -⟩ := records i r hr
    split
    · rename_i none
      refine h.timed.ended fun x hx e => ?_
      rw [← (ending x).1 e] at hx
      obtain ⟨-, w, hw, port, -⟩ := index.keysDiffer.carries hr hx key'.symm
      exact List.find?_eq_none.1 none w hw (decide_eq_true port)
    · rename_i w claim
      have hw := List.mem_of_find?_eq_some claim
      have port : w.port = p := Record.claimOf_port claim
      split
      · refine h.timed.endClaim hr apart hw h.apart (fun x e => ?_) _
        rw [← (ending x).1 e]
        exact ⟨rfl, key'.symm, port.symm⟩
      · rename_i stale
        refine h.timed.ended fun x hx e => stale ?_
        rw [← (ending x).1 e] at hx
        obtain ⟨-, w', hw', port', serial⟩ := index.keysDiffer.carries hr hx key'.symm
        rwa [List.inj_on_of_nodup_map apart hw' hw (port'.trans port.symm)] at serial

theorem Clocked.acted (he : s.event = some e) : Timed (s.acted e) Told 3586 := by
  have plain (none : e.expiring? = none) : Timed s Told 3586 := h.timed.ended fun x _ ending => by
    rw [State.ending_iff he, none] at ending
    cases ending
  cases e with
  | expiry kind key p n =>
    cases kind with
    | lease => exact h.expireLease index records he
    | wait => exact h.expireWait index records he
  | eviction p => exact (plain rfl).evict (by decide) index records p false
  | capture g => exact (plain rfl).sameList (.capture s g _)
  | committed g noted => exact (plain rfl).sameList (.commitGroup s g noted)
  | faulted g => exact ((plain rfl).sameList (.answerSyncs s g _ _)).sameList (.deviceNotice _ _ _)

end Sys2Proof.Machine
end

section
/-! SUPPORT. The deadline list with the leases and the waits that it runs for (R64 to R69): the engine's next client, the
events that are raised, and device time. -/

namespace Sys2Proof.Machine

variable {s t u : State} {i : Slot} {p : PortId} {r : Record} {w : ParkedClaim} {N : Nat} {e : Event} {f : RequestFrame}
  {x : Timing} {c : Client} {ex : Timing → Prop}

/-! ### How many serials and parked claims there can be (R1, R44) -/

/-- The lease and the limited waits of a record, as a list. -/
def Record.timings (r : Record) : List Timing :=
  (r.lease.toList.flatMap fun n => r.holder.toList.map fun p => (.lease, r.key, p, n))
    ++ r.waiters.filterMap fun w => w.wait.serial?.map fun n => (.wait, r.key, w.port, n)

theorem Record.Carries.mem_timings (h : r.Carries x) : x ∈ r.timings := by
  obtain ⟨kind, k, p, n⟩ := x
  cases kind with
  | lease =>
    obtain ⟨rfl, holder, lease⟩ := h
    refine List.mem_append_left _ ?_
    rw [holder, lease]
    exact List.mem_singleton_self _
  | wait =>
    obtain ⟨rfl, w, hw, rfl, serial⟩ := h
    exact List.mem_append_right _ (List.mem_filterMap.2 ⟨w, hw, by rw [serial]; rfl⟩)

theorem Record.timings_length (r : Record) : r.timings.length ≤ 1 + r.waiters.length := by
  unfold Record.timings
  rw [List.length_append]
  refine Nat.add_le_add ?_ (List.length_filterMap_le _ _)
  cases r.lease <;> cases r.holder <;> simp

/-- The lease and the limited waits of a slot. -/
def slotTimings (x : Option Record) : List Timing := (x.map Record.timings).getD []

theorem slotTimings_length (x : Option Record) : (slotTimings x).length ≤ 1 + (Record.waiting? x).length := by
  cases x with
  | none => exact Nat.zero_le _
  | some r => exact r.timings_length

/-- R64: every serial in use is a lease's or a limited wait's where no event waits. -/
theorem Timed.used_le (h : Timed s ex N) (idle : s.events = []) : s.usedSerials.length ≤ 512 + s.parkedClaims := by
  have later : s.later = s.deadlines.map Deadline.timing := by
    rw [State.later, idle, List.filterMap_nil, List.append_nil]
  have nodup : s.later.Nodup := by
    have used := h.nodup
    rw [State.usedSerials_eq] at used
    exact used.of_map _
  have within : s.later ⊆ (List.finRange 512).flatMap fun i => slotTimings s.slots[i] := fun x hx => by
    rw [later] at hx
    obtain ⟨d, hd, rfl⟩ := List.mem_map.1 hx
    obtain ⟨i, r, hr, carries⟩ := h.stands d hd
    refine List.mem_flatMap.2 ⟨i, List.mem_finRange i, ?_⟩
    rw [hr]
    exact carries.mem_timings
  rw [State.usedSerials_eq, List.length_map]
  calc s.later.length ≤ ((List.finRange 512).flatMap fun i => slotTimings s.slots[i]).length := (nodup.subperm within).length_le
    _ = ∑ i : Slot, (slotTimings s.slots[i]).length := by rw [List.length_flatMap, Fin.sum_univ_def]
    _ ≤ ∑ i : Slot, (1 + (Record.waiting? s.slots[i]).length) := Finset.sum_le_sum fun i _ => slotTimings_length _
    _ = 512 + s.parkedClaims := by rw [Finset.sum_add_distrib, State.parkedClaims_eq]; simp

/-- R44: three claims may be parked on a record. -/
theorem RecordsSound.parked_le (h : RecordsSound s) : s.parkedClaims ≤ 1536 := by
  have each (i : Slot) : (Record.waiting? s.slots[i]).length ≤ 3 := by
    cases hr : s.slots[i] with
    | none => exact Nat.zero_le _
    | some r =>
      obtain ⟨-, -, -, -, -, -, few, -⟩ := h i r hr
      exact few
  rw [State.parkedClaims_eq]
  calc ∑ i : Slot, (Record.waiting? s.slots[i]).length ≤ ∑ _i : Slot, 3 := Finset.sum_le_sum fun i _ => each i
    _ = 1536 := by simp

theorem Timed.load_le (h : Timed s ex N) (records : RecordsSound s) (idle : s.events = []) : s.load ≤ 3584 := by
  have used := h.used_le idle
  have parked := records.parked_le
  unfold State.load
  omega

/-! ### Taking a client and ending an item (R141, R143) -/

theorem State.not_ending (h : s.event = none) : ¬ s.Ending x := by
  rintro ⟨e, he, -⟩
  rw [h] at he
  cases he

/-- R68: an event is taken, and what it ends has left the serials in use. -/
theorem Clocked.takeEvent (h : Clocked s) (item : s.item = none) {rest : List Event} (events : s.events = e :: rest) :
    Clocked (s.takeEvent e) := by
  have nobody (x : Timing) : ¬ s.Ending x := State.not_ending (by rw [State.event, item])
  have ending (x : Timing) : (s.takeEvent e).Ending x ↔ e.expiring? = some x := State.ending_iff rfl
  have later : s.later.Perm (e.expiring?.toList ++ (s.takeEvent e).later) := by
    have left : (s.takeEvent e).later = s.deadlines.map Deadline.timing ++ rest.filterMap Event.expiring? := by
      rw [State.later, State.takeEvent, events]
      rfl
    have head : (e :: rest).filterMap Event.expiring? = e.expiring?.toList ++ rest.filterMap Event.expiring? := by
      rw [List.filterMap_cons]
      cases e.expiring? <;> rfl
    rw [left, State.later, events, head, ← List.append_assoc, ← List.append_assoc]
    exact List.perm_append_comm.append_right _
  have used : s.usedSerials.Perm ((e.expiring?.toList.map Timing.serial) ++ (s.takeEvent e).usedSerials) := by
    rw [State.usedSerials_eq, State.usedSerials_eq, ← List.map_append]
    exact later.map _
  have nodup := used.nodup_iff.1 h.timed.nodup
  obtain ⟨-, nodup, apart⟩ := List.nodup_append.1 nodup
  have fewer : (s.takeEvent e).load ≤ s.load := by
    have length := used.length_eq
    rw [List.length_append] at length
    show (s.takeEvent e).usedSerials.length + s.parkedClaims ≤ s.usedSerials.length + s.parkedClaims
    omega
  refine ⟨⟨h.timed.apart, nodup, ?_, h.timed.order, h.timed.stands, fun x hx no => ?_, fewer.trans h.timed.room⟩,
    fun x hx same => ?_, ?_⟩
  · exact fun d hd => ⟨(h.timed.near d hd).1, (h.timed.near d hd).1⟩
  · obtain mem | mem := List.mem_append.1 (later.subset (h.timed.told x hx (nobody x)))
    · exact absurd ((ending x).2 (Option.mem_toList.1 mem)) no
    · exact mem
  · exact apart x.serial (List.mem_map.2 ⟨x, Option.mem_toList.2 ((ending x).1 hx), rfl⟩) x.serial same rfl
  · rintro ⟨y, taken, q, f, request⟩
    obtain rfl : ⟨.event e, s.time⟩ = y := Option.some.inj taken
    cases request

theorem Clocked.takeRequest (h : Clocked s) (records : RecordsSound s) (item : s.item = none) (events : s.events = []) :
    Clocked (s.takeRequest p f) := by
  have nobody (x : Timing) : ¬ s.Ending x := State.not_ending (by rw [State.event, item])
  have nobody' (x : Timing) : ¬ (s.takeRequest p f).Ending x := State.not_ending rfl
  have load := h.timed.load_le records events
  refine ⟨⟨h.timed.apart, h.timed.nodup, ?_, h.timed.order, h.timed.stands, fun x hx _ => h.timed.told x hx (nobody x),
    h.timed.room⟩, fun x hx => absurd hx (nobody' x), fun _ => load⟩
  exact fun d hd => ⟨(h.timed.near d hd).1, (h.timed.near d hd).1⟩

/-- R143: an event is taken from the head of the list, a request only where the list is empty. -/
theorem State.client_events (h : s.client = some c) :
    (∃ e rest, c = .event e ∧ s.events = e :: rest) ∨ ∃ p f, c = .request p f ∧ s.events = [] := by
  unfold State.client at h
  split at h
  · split at h
    · exact .inl ⟨_, _, (Option.some.inj h).symm, ‹_›⟩
    · obtain ⟨p, -, found⟩ := List.exists_of_findSome?_eq_some h
      obtain ⟨f, -, request⟩ := Option.map_eq_some_iff.1 found
      exact .inr ⟨p, f, request.symm, ‹_›⟩
  · cases h

theorem Clocked.engaged (h : Clocked s) (records : RecordsSound s) : Clocked s.engaged := by
  cases item : s.item with
  | some x => rwa [State.engaged_busy (by rw [item]; nofun)]
  | none =>
    cases hc : s.client with
    | none => rwa [State.engaged_idle hc]
    | some c =>
      obtain ⟨e, rest, rfl, events⟩ | ⟨p, f, rfl, events⟩ := State.client_events hc
      · rw [State.engaged_event item hc]
        exact h.takeEvent item events
      · rw [State.engaged_request item hc]
        exact h.takeRequest records item events

theorem Clocked.finish (h : Timed u Told 3586) (records : RecordsSound u) : Clocked u.finish := by
  refine Clocked.engaged (s := { u with item := none }) ?_ records
  have nobody (x : Timing) : ¬ State.Ending { u with item := none } x := State.not_ending rfl
  refine ⟨⟨h.apart, h.nodup, fun d hd => ⟨(h.near d hd).1, (h.near d hd).1⟩, h.order, h.stands,
    fun x hx _ => h.told x hx id, h.room⟩, fun x hx => absurd hx (nobody x), ?_⟩
  rintro ⟨_, item, -⟩
  cases item

/-! ### Rows that leave the list and the table (R67, R142) -/

theorem State.parkedClaims_congr (slots : t.slots = s.slots) : t.parkedClaims = s.parkedClaims := by
  rw [State.parkedClaims, slots, State.parkedClaims]

/-- No deadline, no lease, no wait and no expiry event begins or ends. -/
theorem Clocked.quiet (h : Clocked s) (slots : t.slots = s.slots) (deadlines : t.deadlines = s.deadlines)
    (time : t.time = s.time) (item : t.item = s.item)
    (events : t.events.filterMap Event.expiring? = s.events.filterMap Event.expiring?) : Clocked t := by
  have later : t.later = s.later := by rw [State.later, deadlines, events, State.later]
  have used : t.usedSerials = s.usedSerials := by rw [State.usedSerials_eq, later, State.usedSerials_eq]
  have parked := State.parkedClaims_congr slots
  have ending : t.Ending = s.Ending := by unfold State.Ending State.event; rw [item]
  refine ⟨?_, ?_, ?_⟩
  · rw [ending]
    refine h.timed.keepLater ?_ deadlines later time (State.reading_congr item time) (fun x => ?_) (by rw [parked])
    · unfold State.KeysDiffer; rw [slots]; exact h.timed.apart
    · unfold State.Carries; rw [slots]
  · unfold State.EndingApart
    rw [ending, used]
    exact h.apart
  · unfold State.servesRequest State.load
    rw [item, used, parked]
    exact h.serving

/-- R67: entries fall due, in list order. -/
theorem Clocked.fallen (h : Clocked s) {due left : List Deadline} (split : s.deadlines = due ++ left) :
    Clocked { s with deadlines := left, events := s.events ++ due.map Deadline.event } := by
  have fallen : (due.map Deadline.event).filterMap Event.expiring? = due.map Deadline.timing := by
    rw [List.filterMap_map]
    exact List.filterMap_eq_map (f := Deadline.timing) ▸ rfl
  have later : (State.later { s with deadlines := left, events := s.events ++ due.map Deadline.event }).Perm s.later := by
    rw [State.later, State.later, split, List.filterMap_append, fallen, List.map_append]
    refine Multiset.coe_eq_coe.1 ?_
    simp only [← Multiset.coe_add]
    abel
  have used : (State.usedSerials { s with deadlines := left, events := s.events ++ due.map Deadline.event }).Perm
      s.usedSerials := by
    rw [State.usedSerials_eq, State.usedSerials_eq]
    exact later.map _
  have load : State.load { s with deadlines := left, events := s.events ++ due.map Deadline.event } = s.load :=
    congrArg₂ (· + ·) used.length_eq (State.parkedClaims_congr rfl)
  have fewer : left.Sublist s.deadlines := by rw [split]; exact List.sublist_append_right _ _
  obtain ⟨⟨keys, nodup, near, order, stands, told, room⟩, apart, serving⟩ := h
  refine ⟨⟨keys, used.nodup_iff.2 nodup, fun d hd => near d (fewer.subset hd), order.sublist fewer,
    fun d hd => stands d (fewer.subset hd), fun x hx no => later.mem_iff.2 (told x hx no), load.trans_le room⟩,
    fun x hx mem => apart x hx (used.mem_iff.1 mem), fun serves => load.trans_le (serving serves)⟩

theorem due_advances {due time : Word} (near : (due - time).toNat ≤ 65535) (ahead : due ≠ time) :
    (due - (time + 1)).toNat + 1 = (due - time).toNat := by
  bv_omega

/-- R63: device time advances, past no due tick. -/
theorem Clocked.advance (h : Clocked s) (ahead : ∀ d ∈ s.deadlines, d.due ≠ s.time) :
    Clocked { s with time := s.time + 1 } := by
  obtain ⟨⟨keys, nodup, near, order, stands, told, room⟩, apart, serving⟩ := h
  have next (d : Deadline) (hd : d ∈ s.deadlines) : (d.due - (s.time + 1)).toNat + 1 = (d.due - s.time).toNat :=
    due_advances (near d hd).1 (ahead d hd)
  refine ⟨⟨keys, nodup, fun d hd => ?_, order.imp_of_mem fun {d e} hd he le => ?_, stands, told, room⟩, apart, serving⟩
  · have soon : (d.due - (s.time + 1)).toNat ≤ 65535 := by
      have := next d hd
      have := (near d hd).1
      omega
    refine ⟨soon, ?_⟩
    have reading : State.reading { s with time := s.time + 1 } = s.time + 1
        ∨ State.reading { s with time := s.time + 1 } = s.reading := by
      unfold State.reading
      cases s.item with
      | none => exact .inl rfl
      | some x => exact .inr rfl
    obtain now | same := reading
    · rw [now]; exact soon
    · rw [same]; exact (near d hd).2
  · have := next d hd
    have := next e he
    rw [BitVec.le_def] at le ⊢
    show (d.due - (s.time + 1)).toNat ≤ (e.due - (s.time + 1)).toNat
    omega

end Sys2Proof.Machine
end

section
/-! PROOFS. Every step keeps the deadline list in order and in agreement with the leases and waits that it runs for
(O8). -/

namespace Sys2Proof.Machine

variable {s t u : State} {i : Slot} {g : GroupId} {p : PortId} {r : Record} {c : Instr} {a : ActiveRewrite}
  {f : RequestFrame}

/-! ### Items (R141) -/

theorem Served.clocked (h : Served p f s u) (hs : Clocked s) (table : TableSound s) (records : RecordsSound s)
    (hr : s.request p = some f) (after : RecordsSound u.finish) : Clocked u.finish := by
  have item := State.request_iff.1 hr
  have nobody (x : Timing) : ¬ s.Ending x := by
    rintro ⟨e, he, -⟩
    cases item.symm.trans (State.event_iff.1 he)
  obtain ⟨y, hy, client⟩ := Option.map_eq_some_iff.1 item
  have told : Timed s Told 3584 :=
    { hs.timed.ended fun x _ => nobody x with room := hs.serving ⟨y, hy, p, f, client⟩ }
  exact .finish (h.timed table records (by decide) told) (after.eqs (by simp [State.finish]))

theorem Clocked.event_row (h : Clocked s) (index : IndexSound s) (records : RecordsSound s) (row : c ∈ eventRows)
    (ran : exec c s = .next t) (after : RecordsSound t) : Clocked t := by
  obtain idle | ⟨e, he, acted⟩ := exec_event (s := s) row
  · rw [idle] at ran
    cases ran
    exact h
  · rw [acted] at ran
    cases ran
    exact .finish (h.acted index records he) (after.eqs (by simp [State.finish]))

/-! ### The work of the Store Engine -/

/-- The list agrees with the records, and each record is sound. -/
def ClockSound (s : State) : Prop := Clocked s ∧ RecordsSound s

theorem ClockSound.eqs (h : ClockSound s) (slots : t.slots = s.slots) (deadlines : t.deadlines = s.deadlines)
    (time : t.time = s.time) (item : t.item = s.item) (events : t.events = s.events) : ClockSound t :=
  ⟨h.1.quiet slots deadlines time item (by rw [events]), h.2.eqs slots⟩

theorem ClockSound.engaged (h : ClockSound s) : ClockSound s.engaged := ⟨h.1.engaged h.2, h.2.eqs (by simp)⟩

theorem ClockSound.raise (h : ClockSound s) (e : Event) (plain : e.expiring? = none) : ClockSound (s.raise e) := by
  refine ClockSound.engaged (s := { s with events := s.events ++ [e] }) ⟨h.1.quiet rfl rfl rfl rfl ?_, h.2.eqs rfl⟩
  show (s.events ++ [e]).filterMap Event.expiring? = _
  rw [List.filterMap_append, List.filterMap_cons, plain]
  exact List.append_nil _

theorem ClockSound.startHead (h : ClockSound s) : ClockSound s.startHead := by
  unfold State.startHead
  split
  · exact h
  · refine ClockSound.raise ?_ _ rfl
    exact h.eqs rfl rfl rfl rfl rfl

theorem ClockSound.resume (h : ClockSound s) (g : GroupId) : ClockSound (s.resume g) := by
  unfold State.resume
  split
  · exact h.eqs rfl rfl rfl rfl rfl
  all_goals exact h

theorem ClockSound.startWork (h : ClockSound s) : ClockSound s.startWork := by
  unfold State.startWork
  split
  · exact h
  · split
    · exact h
    · split
      · exact h.resume _
      · exact h.startHead

theorem ClockSound.rewriteFails (h : ClockSound s) (g : GroupId) (at' : Attempt) : ClockSound (s.rewriteFails g at') := by
  unfold State.rewriteFails
  split
  · split
    · exact h.eqs rfl rfl rfl rfl rfl
    · exact h.eqs rfl rfl rfl rfl rfl
  · refine ClockSound.startWork (ClockSound.raise ?_ _ rfl)
    exact h.eqs rfl rfl rfl rfl rfl

theorem Reported.clockSound (hr : Reported s a u) (h : ClockSound s) : ClockSound u := by
  cases hr with
  | erased => exact h.eqs rfl rfl rfl rfl rfl
  | suspended => exact h.eqs rfl rfl rfl rfl rfl
  | paused => exact ClockSound.startHead (s := s.suspendActive a) (h.eqs rfl rfl rfl rfl rfl)
  | programmed => exact h.eqs rfl rfl rfl rfl rfl
  | switched =>
    refine ClockSound.startWork (ClockSound.raise ?_ _ rfl)
    exact h.eqs rfl rfl rfl rfl rfl
  | failed ph m =>
    exact ClockSound.rewriteFails (s := { s.setSpare a.group _ with fresh := s.fresh + 1 })
      (h.eqs rfl rfl rfl rfl rfl) _ _

/-! ### Device time (R63, R67) -/

theorem ClockSound.fallen (h : ClockSound s) {due left : List Deadline} (split : s.deadlines = due ++ left) :
    ClockSound { s with deadlines := left, events := s.events ++ due.map Deadline.event } :=
  ⟨h.1.fallen split, h.2.eqs rfl⟩

/-- R67: the entries that are left lie ahead. -/
theorem Timed.laterDeadlines_ahead {ex : Timing → Prop} {N : Nat} (h : Timed s ex N) :
    ∀ d ∈ s.laterDeadlines, d.due ≠ s.time := by
  have order := h.order.sublist (List.dropWhile_sublist fun d => reached s.time d.due)
  have head := List.head?_dropWhile_not (fun d => reached s.time d.due) s.deadlines
  unfold State.laterDeadlines
  cases left : s.deadlines.dropWhile fun d => reached s.time d.due with
  | nil => nofun
  | cons a rest =>
    rw [left] at order head
    have ahead : a.due ≠ s.time := by
      rintro same
      simp [reached, same] at head
    obtain ⟨first, -⟩ := List.pairwise_cons.1 order
    intro d hd same
    obtain rfl | hd := List.mem_cons.1 hd
    · exact ahead same
    · have le := first d hd
      rw [same] at le
      exact ahead (by bv_omega)

theorem ClockSound.tick (h : ClockSound s) : ClockSound { s.fallAllDue.tickActive with time := s.time + 1 } := by
  have fallen : ClockSound s.fallAllDue := (h.fallen s.due_append_later.symm).engaged
  have ticked : ClockSound s.fallAllDue.tickActive := fallen.eqs (by simp) (by simp) (by simp) (by simp) (by simp)
  have time : s.fallAllDue.tickActive.time = s.time := by simp
  have ahead : ∀ d ∈ s.fallAllDue.tickActive.deadlines, d.due ≠ s.fallAllDue.tickActive.time := by
    rw [time, show s.fallAllDue.tickActive.deadlines = s.laterDeadlines by simp [State.fallAllDue, State.raiseAll]]
    exact h.1.timed.laterDeadlines_ahead
  rw [← time]
  exact ⟨ticked.1.advance ahead, ticked.2.eqs rfl⟩

theorem ClockSound.fallDue (h : ClockSound s) : ClockSound s.fallDue := by
  unfold State.fallDue
  split
  · exact h
  · rename_i d rest list
    split
    · exact (h.fallen (due := [d]) list).engaged
    · exact h

/-! ### Resets and restore -/

/-- No deadline runs and no event waits, and no record has a lease or waiters. -/
theorem Clocked.empty (index : IndexSound s) (deadlines : s.deadlines = []) (events : s.events = [])
    (item : s.item = none) (free : ∀ (i : Slot) (r : Record), s.slots[i] = some r → r.lease = none ∧ r.waiters = []) :
    Clocked s := by
  have nobody (x : Timing) : ¬ s.Ending x := State.not_ending (by rw [State.event, item])
  have used : s.usedSerials = [] := by rw [State.usedSerials, deadlines, events]; rfl
  have none (x : Timing) : ¬ s.Carries x := fun ⟨i, r, hr, carries⟩ =>
    Record.no_carries (free i r hr).1 (free i r hr).2 carries
  have parked : s.parkedClaims = 0 := by
    rw [State.parkedClaims_eq]
    refine Finset.sum_eq_zero fun i _ => ?_
    cases hr : s.slots[i] with
    | none => rfl
    | some r => exact congrArg List.length (free i r hr).2
  have load : s.load = 0 := by rw [State.load, used, parked]; rfl
  refine ⟨⟨index.keysDiffer, used ▸ List.nodup_nil, ?_, ?_, ?_, fun x hx => absurd hx (none x), by omega⟩,
    fun x hx => absurd hx (nobody x), fun _ => by omega⟩
  all_goals rw [deadlines]
  · exact fun d hd => nomatch hd
  · exact List.Pairwise.nil
  · exact fun d hd => nomatch hd

theorem Clocked.cleared (s : State) (ph : RunState) (index : IndexSound (s.cleared ph)) : Clocked (s.cleared ph) := by
  refine .empty index rfl rfl rfl fun i r hr => ?_
  have slot : (s.cleared ph).slots[i] = none := Vector.getElem_replicate _
  rw [slot] at hr
  cases hr

theorem Clocked.restored (held : HeldSound s) (hp : s.phase = .reset) (v0 v1 v2 v3 : Privilege)
    (index : IndexSound ((s.beginRestore.sampleStraps v0 v1 v2 v3).restoreGroups (List.finRange 16))) :
    Clocked ((s.beginRestore.sampleStraps v0 v1 v2 v3).restoreGroups (List.finRange 16)) := by
  have through := held.goesThrough hp v0 v1 v2 v3
  obtain ⟨-, -, -, events, item, deadlines, -⟩ := held (.inr hp)
  refine .empty index (by simpa using deadlines) (by simpa using events) (by simpa using item) fun i r hr => ?_
  obtain ⟨h, -, -, loads⟩ := through.only i r hr
  exact State.loads_unheld loads

theorem ClockSound.portReset (h : ClockSound s) (p : PortId) :
    ClockSound ((s.modifyPort p prstPort).raiseEviction p) := by
  have reset : ClockSound (s.modifyPort p prstPort) := h.eqs rfl rfl rfl rfl rfl
  unfold State.raiseEviction
  split
  · split
    · exact reset
    · exact reset.raise _ rfl
  · exact reset

/-! ### Every command -/

theorem Ran.clockSound (h : Ran s c t) (plain : c ∉ eventRows) (table : TableSound s) (hs : ClockSound s)
    (held : HeldSound s) (index : IndexSound t) (records : RecordsSound t) : ClockSound t := by
  cases h with
  | idle => exact hs
  | request _ p f u row item served => exact ⟨served.clocked hs.1 table hs.2 item records, records⟩
  | event _ e u row => exact absurd row plain
  | reset => exact ⟨.cleared _ _ index, records⟩
  | powerLost => exact ⟨.cleared _ _ index, records⟩
  | restored v0 v1 v2 v3 phase => exact ⟨.restored held phase v0 v1 v2 v3 index, records⟩
  | restoreEnded =>
    have warned : ClockSound (s.restoreLostNotices (List.finRange 16)).powerWarnSeen :=
      hs.eqs (by simp) (by simp) (by simp) (by simp) (by simp)
    generalize (s.restoreLostNotices (List.finRange 16)).powerWarnSeen = x at warned ⊢
    exact ClockSound.engaged (s := { x with phase := .running, pfwSeen := false }) (warned.eqs rfl rfl rfl rfl rfl)
  | portReset p => exact hs.portReset p
  | portReleased p => exact hs.eqs rfl rfl rfl rfl rfl
  | pfwServing running level => exact hs.eqs (by simp) (by simp) (by simp) (by simp) (by simp)
  | pfwEarly => exact hs.eqs rfl rfl rfl rfl rfl
  | pfwReleased => exact hs.eqs rfl rfl rfl rfl rfl
  | ticked => exact hs.tick
  | fellDue => exact hs.fallDue
  | begun p => exact hs.eqs rfl rfl rfl rfl rfl
  | submitted p bytes => exact ClockSound.engaged (hs.eqs (by simp) (by simp) (by simp) (by simp) (by simp))
  | fetchReleased p n => exact ClockSound.engaged (s := s.modifyPort p _) (hs.eqs rfl rfl rfl rfl rfl)
  | noticeReleased p n => exact hs.eqs rfl rfl rfl rfl rfl
  | link _ p k linked begun served => exact hs.eqs rfl rfl rfl rfl rfl
  | started => exact hs.startWork
  | report _ a u row reported => exact reported.clockSound hs

theorem exec_clockSound (h : exec c s = .next t) (base : BaseSound s) (hs : ClockSound s) (after : BaseSound t)
    (records : RecordsSound t) : ClockSound t := by
  obtain ⟨held, table⟩ := base
  by_cases row : c ∈ eventRows
  · exact ⟨hs.1.event_row table.1 hs.2 row h records, records⟩
  · exact (exec_ran h).clockSound row table hs held after.2.1 records

/-- A step runs a command, or none waits. -/
theorem step_runs (h : step s = .next t) : t = s ∨ ∃ c cs, exec c { s with pending := cs } = .next t := by
  unfold step at h
  split at h
  · cases h; exact .inl rfl
  · exact .inr ⟨_, _, h⟩

/-- Settles O8: an item ends and begins leases and waits together with their entries, and every other command leaves them
or moves entries that are due to the events. -/
theorem stepKeepsDeadlinesSound : Obligations.StepKeepsDeadlinesSound := by
  rintro s t ⟨base, records, sound⟩ h
  obtain rfl | ⟨c, cs, run⟩ := step_runs h
  · exact ⟨base, records, sound⟩
  · have ran := exec_ran run
    have base' : BaseSound t := ran.baseSound base
    have records' : RecordsSound t := ran.recordsSound records
    have before : ClockSound { s with pending := cs } :=
      ClockSound.eqs ⟨(deadlinesSound_iff base.2.1 records).1 sound, records⟩ rfl rfl rfl rfl rfl
    have after := exec_clockSound run base before base' records'
    exact ⟨base', records', (deadlinesSound_iff base'.2.1 records').2 after.1⟩

end Sys2Proof.Machine
end
